-- ==== Sys2Proof/Word.lean ====
section
/-! DEFINITION. The widths of the block (spec/00_scope.md R10) and the word types made of them. -/

namespace Sys2Proof

/-! ### Widths (R10). Each is a parameter of the hardware; the values are the spec's own decisions D3 to D8. -/

/-- `DUR_W`, the width of `duration` and of PCNT (fixed by the source). -/
abbrev Config.durW : Nat := 8
/-- `TICK_W`, the width of every tick count (D3). -/
abbrev Config.tickW : Nat := 16
/-- `INDEX_W`, the width of PIDX (D4). -/
abbrev Config.indexW : Nat := 8
/-- `LINE_W`, the width of LINE (D5). -/
abbrev Config.lineW : Nat := 16
/-- `ADDR_W`, the width of a scanline buffer address (D6). -/
abbrev Config.addrW : Nat := 32
/-- `LEN_W`, the width of `data_length` (D6). -/
abbrev Config.lenW : Nat := 16
/-- `DIAG_W`, the width of a diagnostic counter (D7). -/
abbrev Config.diagW : Nat := 32
/-- `DESC_W`, the width of a descriptor word (D8). -/
abbrev Config.descW : Nat := 16

/-! ### Word types. Every quantity of the block is unsigned (R12). -/

/-- A byte of the scanline buffer space. -/
abbrev Byte := BitVec 8
/-- A descriptor's `duration` (R91). -/
abbrev Duration := BitVec Config.durW
/-- A count of timer ticks. -/
abbrev Tick := BitVec Config.tickW
/-- A position in a pulse table. -/
abbrev Index := BitVec Config.indexW
/-- A value of LINE. -/
abbrev LineCount := BitVec Config.lineW
/-- A byte address of the scanline buffer space. -/
abbrev Addr := BitVec Config.addrW
/-- A length in bytes. -/
abbrev Len := BitVec Config.lenW
/-- A diagnostic value. -/
abbrev Diag := BitVec Config.diagW
/-- A descriptor word (R92). -/
abbrev DescWord := BitVec Config.descW
/-- A standard selector (R99). -/
abbrev Std := BitVec 2
/-- A pixel-clock preset (R98). -/
abbrev PixelClock := BitVec 2
/-- An operation word as this model lays it out: operand, four zero bits, the 4-bit id of R100 (DESIGN CHOICE, log 9). -/
abbrev OpWord := BitVec 16

end Sys2Proof
end

