-- ==== Sys2Proof/Machine/Memory.lean ====
section
/-! DEFINITION. The scanline buffer space BUF (spec/10_state.md R38, spec/20_memory.md R61): a list of cells in one
canonical form. -/

namespace Sys2Proof.Machine

/-- BUF: the bytes that differ from what an unlisted address reads as, at strictly rising addresses. -/
abbrev Memory := List Host.Cell

/-- What an unlisted address reads as. The block never resets BUF (R44) and the spec gives it no contents:
DESIGN CHOICE, unsafe, log 8. -/
def unlistedByte : Byte := 0

/-- Reading one byte. -/
def readByte : Memory → Nat → Byte
  | [], _ => unlistedByte
  | (k, v) :: m, a => if k = a then v else readByte m a

/-- A cell in front of a memory, or nothing where the byte is what an unlisted address reads as. -/
def consCell (a : Nat) (v : Byte) (m : Memory) : Memory := if v = unlistedByte then m else (a, v) :: m

/-- Writing one byte, keeping the canonical form. -/
def writeByte : Memory → Nat → Byte → Memory
  | [], a, v => consCell a v []
  | (k, w) :: m, a, v =>
    if a < k then consCell a v ((k, w) :: m)
    else if a = k then consCell a v m
    else (k, w) :: writeByte m a v

/-- Every cell stands at or above `lo`, below the end of the address space, with rising addresses and a byte worth listing. -/
def canonicalFrom : Nat → Memory → Bool
  | _, [] => true
  | lo, (k, v) :: m => decide (lo ≤ k) && decide (k < 2 ^ Config.addrW) && v != unlistedByte && canonicalFrom (k + 1) m

/-- The canonical form. -/
def Memory.wf (m : Memory) : Bool := canonicalFrom 0 m

end Sys2Proof.Machine
end

