-- ==== Sys2Proof/Config.lean ====
section
/-! DEFINITION. The configuration of one block (spec/00_scope.md R10), the form of PRODUCER's
answers, and the open values of the spec as opaque constants. -/

namespace Sys2Proof

/-- The pulse table of one standard (R121), with the declared total line count that only the validity check reads. -/
structure PulseTable where
  /-- `horizontal_period`: timer ticks for one full line. -/
  horizontalPeriod : Tick
  /-- `sync_short`: ticks of the short sync pulse. -/
  syncShort : Tick
  /-- `sync_normal`: ticks of the normal sync pulse. -/
  syncNormal : Tick
  /-- `sync_long`: ticks of the long sync pulse. -/
  syncLong : Tick
  /-- `desc[0..n]`, the ordered sequence of descriptor words, whose last element is END. -/
  desc : List DescWord
  /-- `TOTAL_LINES[s]`, read by check V3 alone. -/
  totalLines : Nat
deriving DecidableEq, Repr, Inhabited

/-- The three tables, one for each standard (R122). -/
structure Configuration where
  /-- `TABLE[0]`, `STD_INTERLACED`. -/
  interlaced : PulseTable
  /-- `TABLE[1]`, `STD_PROGRESSIVE`. -/
  progressive : PulseTable
  /-- `TABLE[2]`, `STD_COMPACT`. -/
  compact : PulseTable
deriving DecidableEq, Repr

/-- What happens on the scanline buffer space while `on_scanline` runs (R68, R202). -/
inductive CallAct where
  /-- PRODUCER stores one byte: `MemWrite(BUF, a, 1, v)`. -/
  | write (a : Addr) (v : Byte)
  /-- XFER takes one step of its own meanwhile. -/
  | xfer
deriving DecidableEq, Repr

/-- The four values PRODUCER returns for one call of `on_scanline` (R203). -/
structure Scanline where
  /-- `horizontal_start`. -/
  hstart : Tick
  /-- `data_length`. -/
  len : Len
  /-- `data`, the address of the buffer's first byte. -/
  data : Addr
  /-- `pixel_clock`. -/
  pclk : PixelClock
deriving DecidableEq, Repr, Inhabited

/-- One answer of PRODUCER: what happens on BUF during the call, in order, and the values returned (R202). -/
structure Answer where
  /-- The writes of PRODUCER and the reads of XFER during the call, in order. -/
  acts : List CallAct
  /-- The values returned. -/
  scanline : Scanline
deriving DecidableEq, Repr

namespace Config

/-- `NSTD`, the number of video standards (R10, fixed by the source). -/
def nstd : Nat := 3
/-- `NPCLK`, the number of pixel-clock presets (R10, fixed by the source). -/
def npclk : Nat := 3
/-- `NBUF`, the number of alternating scanline buffers (R10, D14). -/
def nbuf : Nat := 2

/-- `PCLK_RATE[p]`, the byte rate of preset `p`: OPEN (R10), read by no rule. -/
opaque pclkRate : PixelClock → Nat

/-- The four tick constants of `TABLE[s]`: OPEN (R10, N1); log 2. -/
opaque horizontalPeriod : Std → Tick
/-- `T.sync_short` of `TABLE[s]`: OPEN; log 2. -/
opaque syncShort : Std → Tick
/-- `T.sync_normal` of `TABLE[s]`: OPEN; log 2. -/
opaque syncNormal : Std → Tick
/-- `T.sync_long` of `TABLE[s]`: OPEN; log 2. -/
opaque syncLong : Std → Tick
/-- The descriptor lists of standards 1 and 2: OPEN (R129, N2); log 2. -/
opaque descriptors : Std → List DescWord
/-- `TOTAL_LINES[s]` of standards 1 and 2: OPEN (R129, N2); log 2. -/
opaque totalLines : Std → Nat

/-- `env.elapsed()` (R17, R226): the k-th draw of a duration, about which no rule says anything; log 4. -/
opaque elapsed : Nat → Diag
/-- `env.on_scanline(ctx)` (R17, R202): the k-th draw of PRODUCER's four values, used where no answer is queued; log 5. -/
opaque onScanline : Nat → Scanline
/-- Whether the k-th draw of TIMER's tick with PERIOD_ACT = 0, outside TIMER's defined behaviour (R263), ends the period; log 17. -/
opaque zeroPeriodEnds : Nat → Bool
/-- The count that TIMER shows after such a tick if it does not end the period; log 17. -/
opaque zeroPeriodCount : Nat → Tick

end Config

end Sys2Proof
end

