-- ==== Sys2Proof/Syntax.lean ====
section
/-! DEFINITION. The instructions: one constructor for each row of spec/opcode_table.json (spec/30_encoding.md R100,
R103, R105). -/

namespace Sys2Proof

/-- The eight descriptor kinds of format D, then the operations of format OP with the reserved id. -/
inductive Instr where
  /-- END (R130): `duration == 0`, the wrap marker. `low` is the byte the hardware does not read (R95). -/
  | endMark (low : Byte)
  /-- PULSE (R131): the four flags, the reserved bits 7:4, and the duration. -/
  | pulse (half short long active : Bool) (rsv : BitVec 4) (n : Duration)
  /-- LONG2 n = PULSE 1,0,1,0,n (R103). -/
  | long2 (n : Duration)
  /-- SHORT2 n = PULSE 1,1,0,0,n (R103). -/
  | short2 (n : Duration)
  /-- BLANK n = PULSE 0,0,0,0,n (R103). -/
  | blank (n : Duration)
  /-- ACTIVE n = PULSE 0,0,0,1,n (R103). -/
  | active (n : Duration)
  /-- SHORT n = PULSE 0,1,0,0,n (R103). -/
  | short (n : Duration)
  /-- SHORTHALF n = PULSE 1,SHORT_HALF_S,0,0,n (R103); `shs` is the parameter SHORT_HALF_S. -/
  | shorthalf (shs : Bool) (n : Duration)
  /-- INIT s (R220). -/
  | init (std : Std)
  /-- TEARDOWN (R222). -/
  | teardown
  /-- RDREG n (R224), n a register number. -/
  | rdreg (n : Byte)
  /-- RDDIAG (R225). -/
  | rddiag
  /-- HPER (R148). -/
  | hper
  /-- SYNCW (R150). -/
  | syncw
  /-- ISACT (R151). -/
  | isact
  /-- TICK (R170), one line service. -/
  | tick
  /-- BOUNDARY (R171). -/
  | boundary
  /-- ARB (R172). -/
  | arb
  /-- STEP (R140). -/
  | step
  /-- PRODUCE (R203). -/
  | produce
  /-- VBLANK (R209). -/
  | vblank
  /-- REPROG (R180). -/
  | reprog
  /-- DIAG (R226). -/
  | diag
  /-- The reserved id 0 (R101). -/
  | reserved
deriving DecidableEq, Repr

end Sys2Proof
end

