-- ==== Sys2Proof/WellFormed.lean ====
section
/-! DEFINITION. When an instruction is one its encoding admits (spec/30_encoding.md R91, R93). -/

namespace Sys2Proof

/-- A pulse of any kind has a duration of 1 to 255 (R91, R102): `duration == 0` is END. Every other operand is
admitted at every value: reserved bits of a PULSE are ignored by the hardware (R97), selector 3 of INIT is refused
when it runs (R220), and an unlisted register number reads 0 (R224). -/
def Instr.wf : Instr → Bool
  | .endMark _ => true
  | .pulse _ _ _ _ _ n => n != 0
  | .long2 n => n != 0
  | .short2 n => n != 0
  | .blank n => n != 0
  | .active n => n != 0
  | .short n => n != 0
  | .shorthalf _ n => n != 0
  | .init _ => true
  | .teardown => true
  | .rdreg _ => true
  | .rddiag => true
  | .hper => true
  | .syncw => true
  | .isact => true
  | .tick => true
  | .boundary => true
  | .arb => true
  | .step => true
  | .produce => true
  | .vblank => true
  | .reprog => true
  | .diag => true
  | .reserved => true

end Sys2Proof
end

