-- ==== Sys2Proof/Decode.lean ====
section
/-! DEFINITION. Fields of the descriptor word, the decoder of both formats, and after it the encoder
(spec/30_encoding.md R90 to R101). -/

namespace Sys2Proof

/-! ### The descriptor word, bit by bit (R92) -/

/-- `w.half_period = w[0]` (R92). -/
def descHalf (w : DescWord) : Bool := w.getLsbD 0
/-- `w.short_sync = w[1]` (R92). -/
def descShort (w : DescWord) : Bool := w.getLsbD 1
/-- `w.long_sync = w[2]` (R92). -/
def descLong (w : DescWord) : Bool := w.getLsbD 2
/-- `w.active = w[3]` (R92). -/
def descActive (w : DescWord) : Bool := w.getLsbD 3
/-- The reserved bits `w[7:4]` (R92). -/
def descRsv (w : DescWord) : BitVec 4 := w.extractLsb' 4 4
/-- `w.duration = w[15:8]` (R92). -/
def descDuration (w : DescWord) : Duration := w.extractLsb' 8 8
/-- The low byte `w[7:0]`: the four flags and the reserved bits. -/
def descFlags (w : DescWord) : Byte := w.extractLsb' 0 8

/-- The word with low byte `f`: `(n << 8) | f` (R103). -/
def descOfFlags (n : Duration) (f : Byte) : DescWord := n ++ f

/-- The low byte `{rsv, active, long_sync, short_sync, half_period}` (R92). -/
def flagsByte (half short long active : Bool) (rsv : BitVec 4) : Byte :=
  rsv ++ (BitVec.ofBool active ++ BitVec.ofBool long ++ BitVec.ofBool short ++ BitVec.ofBool half)

/-- `w = {duration[7:0], rsv, active, long_sync, short_sync, half_period}` (R92). -/
def descWord (half short long active : Bool) (rsv : BitVec 4) (n : Duration) : DescWord :=
  descOfFlags n (flagsByte half short long active rsv)

/-! ### Decoding -/

/-- Why bits are no instruction. -/
inductive DecodeError where
  /-- Fewer bytes than the format has. -/
  | tooShort
  /-- Bits 7:4 of an operation word, which the model's layout leaves zero, are not zero (log 9). -/
  | operationHighBits
  /-- Operand bits that the operation does not have are not zero (log 9). -/
  | operandUnallocated
deriving DecidableEq, Repr

/-- Which of the two formats of spec/opcode_table.json a word is in. -/
inductive Format where
  /-- Format D: a word of the pulse table. -/
  | table
  /-- Format OP: an operation word. -/
  | operation
deriving DecidableEq, Repr

/-- Decoding a table word (R93): END when the duration is 0, whatever the other bits; else a PULSE, under the name of
R103 where its low byte is that of a named kind. Every word decodes. -/
def decodeDescriptor (w : DescWord) : Instr :=
  if descDuration w = 0 then .endMark (descFlags w)
  else if descFlags w = 0x05#8 then .long2 (descDuration w)
  else if descFlags w = 0x03#8 then .short2 (descDuration w)
  else if descFlags w = 0x00#8 then .blank (descDuration w)
  else if descFlags w = 0x08#8 then .active (descDuration w)
  else if descFlags w = 0x02#8 then .short (descDuration w)
  else if descFlags w = 0x01#8 then .shorthalf false (descDuration w)
  else .pulse (descHalf w) (descShort w) (descLong w) (descActive w) (descRsv w) (descDuration w)

/-- The 4-bit operation id (R100), bits 3:0 of the model's operation word. -/
def opId (w : OpWord) : BitVec 4 := w.extractLsb' 0 4
/-- The operand of the model's operation word, bits 15:8 (log 9). -/
def opArg (w : OpWord) : Byte := w.extractLsb' 8 8

/-- The operation with id `k` and no operand. -/
def plainOperation (k : BitVec 4) : Option Instr :=
  if k = 0x0#4 then some .reserved
  else if k = 0x2#4 then some .teardown
  else if k = 0x4#4 then some .rddiag
  else if k = 0x5#4 then some .hper
  else if k = 0x6#4 then some .syncw
  else if k = 0x7#4 then some .isact
  else if k = 0x8#4 then some .tick
  else if k = 0x9#4 then some .boundary
  else if k = 0xA#4 then some .arb
  else if k = 0xB#4 then some .step
  else if k = 0xC#4 then some .produce
  else if k = 0xD#4 then some .vblank
  else if k = 0xE#4 then some .reprog
  else if k = 0xF#4 then some .diag
  else none

/-- Decoding an operation word (R100). -/
def decodeOperation (w : OpWord) : Except DecodeError Instr :=
  if w.extractLsb' 4 4 ≠ 0#4 then .error .operationHighBits
  else if opId w = 0x1#4 then
    if (opArg w).extractLsb' 2 6 = 0#6 then .ok (.init ((opArg w).extractLsb' 0 2)) else .error .operandUnallocated
  else if opId w = 0x3#4 then .ok (.rdreg (opArg w))
  else if opArg w ≠ 0#8 then .error .operandUnallocated
  else match plainOperation (opId w) with
    | some i => .ok i
    | none => .error .operandUnallocated

/-- The four operations HOST issues (R100). -/
def Instr.hostOp : Instr → Bool
  | .init _ => true
  | .teardown => true
  | .rdreg _ => true
  | .rddiag => true
  | _ => false

/-- Decoding on HOST's command port (R101): an id that is no HOST command is ignored, as the reserved id is. -/
def decodeCommand (w : OpWord) : Except DecodeError Instr :=
  if 0x1#4 ≤ opId w ∧ opId w ≤ 0x4#4 then decodeOperation w else .ok .reserved

/-- Decoding from bytes, the low byte of a word first; answers the instruction and the bytes after it. R63 gives this order
for a table word. The spec gives an operation no bytes: the same order for an operation word is a DESIGN CHOICE (log 9). -/
def decodeBytes (f : Format) : List Byte → Except DecodeError (Instr × List Byte)
  | b0 :: b1 :: rest =>
    match f with
    | .table => .ok (decodeDescriptor (b1 ++ b0), rest)
    | .operation => match decodeOperation (b1 ++ b0) with
      | .ok i => .ok (i, rest)
      | .error e => .error e
  | _ => .error .tooShort

/-! ### Encoding -/

/-- The operation word of id `k` with operand `a` (log 9). -/
def opWord (k : BitVec 4) (a : Byte) : OpWord := a ++ ((0#4) ++ k)

/-- The encoding of an instruction: its format and its word (R92, R100, R103). -/
def encode : Instr → Format × BitVec 16
  | .endMark low => (.table, descOfFlags 0 low)
  | .pulse h s l a r n => (.table, descWord h s l a r n)
  | .long2 n => (.table, descOfFlags n 0x05)
  | .short2 n => (.table, descOfFlags n 0x03)
  | .blank n => (.table, descOfFlags n 0x00)
  | .active n => (.table, descOfFlags n 0x08)
  | .short n => (.table, descOfFlags n 0x02)
  | .shorthalf true n => (.table, descOfFlags n 0x03)
  | .shorthalf false n => (.table, descOfFlags n 0x01)
  | .init s => (.operation, opWord 0x1 (s.setWidth 8))
  | .teardown => (.operation, opWord 0x2 0)
  | .rdreg n => (.operation, opWord 0x3 n)
  | .rddiag => (.operation, opWord 0x4 0)
  | .hper => (.operation, opWord 0x5 0)
  | .syncw => (.operation, opWord 0x6 0)
  | .isact => (.operation, opWord 0x7 0)
  | .tick => (.operation, opWord 0x8 0)
  | .boundary => (.operation, opWord 0x9 0)
  | .arb => (.operation, opWord 0xA 0)
  | .step => (.operation, opWord 0xB 0)
  | .produce => (.operation, opWord 0xC 0)
  | .vblank => (.operation, opWord 0xD 0)
  | .reprog => (.operation, opWord 0xE 0)
  | .diag => (.operation, opWord 0xF 0)
  | .reserved => (.operation, opWord 0x0 0)

/-- The word of an instruction. -/
def Instr.word (i : Instr) : BitVec 16 := (encode i).2
/-- The format of an instruction. -/
def Instr.format (i : Instr) : Format := (encode i).1

/-- The bytes of an instruction, low byte first: by R63 for a table word, and for an operation word, to which the spec gives
no bytes, as a DESIGN CHOICE (log 9). -/
def encodeBytes (i : Instr) : List Byte := [i.word.extractLsb' 0 8, i.word.extractLsb' 8 8]

/-- The name the decoder gives to a pulse with low byte `f` and duration `n`, if R103 names that byte. -/
def namedPulse (f : Byte) (n : Duration) : Option Instr :=
  if f = 0x05#8 then some (.long2 n)
  else if f = 0x03#8 then some (.short2 n)
  else if f = 0x00#8 then some (.blank n)
  else if f = 0x08#8 then some (.active n)
  else if f = 0x02#8 then some (.short n)
  else if f = 0x01#8 then some (.shorthalf false n)
  else none

/-- The constructor the decoder uses for an instruction's word. It differs from the instruction only where two names
share their words: a PULSE whose low byte R103 names, and SHORTHALF with SHORT_HALF_S = 1, which is SHORT2 (log 10). -/
def Instr.canonical : Instr → Instr
  | .pulse h s l a r n => (namedPulse (flagsByte h s l a r) n).getD (.pulse h s l a r n)
  | .shorthalf true n => .short2 n
  | i => i

/-- The instruction the decoder reads from an instruction whose bits are `w` in the table's numbering: the bytes of the
word, least significant first, in format OP when the row has one byte of bits (the 4-bit id) and in format D when it has two. -/
def decodeTableWord (nbits w : Nat) : Option Instr :=
  let bytes : List Byte := [BitVec.ofNat 8 w, BitVec.ofNat 8 (w / 256)]
  if w / 65536 ≠ 0 then none
  else match decodeBytes (if nbits ≤ 8 then .operation else .table) bytes with
    | .ok (i, _) => some i
    | .error _ => none

end Sys2Proof
end

