-- ==== Sys2Proof/Machine/Tables.lean ====
section
/-! DEFINITION. The pulse table space: fetching a descriptor, the validity checks V1 to V7, and the documented table of
standard 0 (spec/40_pulse_table.md, spec/20_memory.md R60). -/

namespace Sys2Proof

/-- The seven validity checks of R123. -/
inductive TableCheck where
  /-- One terminator, the last entry. -/
  | v1
  /-- At least one PULSE. -/
  | v2
  /-- The line-count sum. -/
  | v3
  /-- No entry with both sync flags. -/
  | v4
  /-- Every index fits PIDX. -/
  | v5
  /-- Reserved bits zero, END the word 0x0000. -/
  | v6
  /-- An active and an inactive entry, and no run longer than LINE counts. -/
  | v7
deriving DecidableEq, Repr

/-- `MemRead(TBL, i, 1)` (R15, R60): the word at index `i`; nothing stands past the table (R124). -/
def PulseTable.fetch (t : PulseTable) (i : Index) : Option DescWord := t.desc[i.toNat]?

/-- The entries before the last, the PULSEs of a table that passes V1. -/
def PulseTable.pulses (t : PulseTable) : List DescWord := t.desc.dropLast

/-- The sum of the durations, in pulse units. -/
def durationSum (ws : List DescWord) : Nat := (ws.map fun w => (descDuration w).toNat).sum

/-- `U(T)`, the pulse units of one cycle (R125). -/
def PulseTable.unitsPerCycle (t : PulseTable) : Nat := durationSum t.desc

/-- The longest run, in pulse units, of a list of entries walked from front to back, when the run so far has the flag
`cur` and `acc` units (R19, V7). -/
def longestRun : List DescWord → Bool → Nat → Nat
  | [], _, acc => acc
  | w :: ws, cur, acc =>
    if descActive w = cur then longestRun ws cur (acc + (descDuration w).toNat)
    else max acc (longestRun ws (descActive w) (descDuration w).toNat)

/-- One check of R123. V7's runs are cyclic: with an active and an inactive entry every cyclic run stands whole in two
turns of the table, one after the other (DEDUCED, log 21). -/
def PulseTable.passes (t : PulseTable) : TableCheck → Bool
  | .v1 => (t.desc.getLast?.any fun w => descDuration w == 0) && t.pulses.all fun w => descDuration w != 0
  | .v2 => 2 ≤ t.desc.length
  | .v3 => 2 * durationSum (t.desc.filter fun w => !descHalf w) + durationSum (t.desc.filter descHalf) == 2 * t.totalLines
  | .v4 => t.desc.all fun w => !(descShort w && descLong w)
  | .v5 => t.desc.length ≤ 2 ^ Config.indexW
  | .v6 => (t.desc.all fun w => descRsv w == 0) && t.desc.getLast? == some 0
  | .v7 => t.pulses.any descActive && t.pulses.any (fun w => !descActive w) &&
      longestRun (t.pulses ++ t.pulses) false 0 ≤ 2 ^ Config.lineW

/-- The checks in the order of R123. -/
def tableChecks : List TableCheck := [.v1, .v2, .v3, .v4, .v5, .v6, .v7]

/-- The check an invalid table is refused for: of those that fail, the first of R123 (DESIGN CHOICE, log 14). -/
def PulseTable.firstFailure (t : PulseTable) : Option TableCheck := tableChecks.find? fun c => !t.passes c

/-- A valid table (R123): it passes every check. -/
def PulseTable.valid (t : PulseTable) : Bool := tableChecks.all t.passes

/-- The bytes of a table in byte-addressed memory (R63): word `i` at offsets `2i` and `2i+1`, flags first. -/
def PulseTable.bytes (t : PulseTable) : List Byte :=
  t.desc.flatMap fun w => [w.extractLsb' 0 8, w.extractLsb' 8 8]

/-- The descriptor list of standard 0 (R127); `shs` is SHORT_HALF_S, the one open flag. -/
def documentedDescriptors (shs : Bool) : List DescWord :=
  [0x0505#16, 0x0503#16, 0x2E00#16, 0xE608#16, 0x1D00#16, 0x0503#16, 0x0505#16, 0x0403#16] ++
  [0x0102#16, 0x2E00#16, 0xE608#16, 0x1C00#16, if shs then 0x0103#16 else 0x0101#16, 0x0503#16, 0x0000#16]

/-- `TOTAL_LINES[0]` (R127). -/
def documentedTotalLines : Nat := 625

/-- The configuration of `State.reset` (R10, R127, R129): the documented list of standard 0 with SHORT_HALF_S at its
default 1, everything open an opaque constant (log 2). -/
def Configuration.documented : Configuration where
  interlaced :=
    { horizontalPeriod := Config.horizontalPeriod 0, syncShort := Config.syncShort 0, syncNormal := Config.syncNormal 0,
      syncLong := Config.syncLong 0, desc := documentedDescriptors true, totalLines := documentedTotalLines }
  progressive :=
    { horizontalPeriod := Config.horizontalPeriod 1, syncShort := Config.syncShort 1, syncNormal := Config.syncNormal 1,
      syncLong := Config.syncLong 1, desc := Config.descriptors 1, totalLines := Config.totalLines 1 }
  compact :=
    { horizontalPeriod := Config.horizontalPeriod 2, syncShort := Config.syncShort 2, syncNormal := Config.syncNormal 2,
      syncLong := Config.syncLong 2, desc := Config.descriptors 2, totalLines := Config.totalLines 2 }

/-- `TABLE[s]`; there is none for the reserved selector 3 (R99). -/
def Configuration.table (c : Configuration) (s : Std) : Option PulseTable :=
  if s = 0#2 then some c.interlaced
  else if s = 1#2 then some c.progressive
  else if s = 2#2 then some c.compact
  else none

end Sys2Proof
end

