-- ==== Sys2Proof/Machine/State.lean ====
section
/-! DEFINITION. The state of the machine as plain data, the reasons a step can stop, and the state after reset
(spec/10_state.md). -/

namespace Sys2Proof.Machine

/-- XFER_BORROW (R40): what XFER still holds of BUF after an ARM. -/
structure Borrow where
  /-- The address of the first byte. -/
  addr : Addr
  /-- The length in bytes. -/
  len : Len
  /-- The pixel-clock preset. -/
  pclk : PixelClock
  /-- How many bytes XFER has read. -/
  done : Nat
deriving DecidableEq, Repr

/-- What a callback sees (R201): the context after STEP, the selected standard and its four tick constants. -/
structure CtxView where
  /-- PIDX. -/
  pidx : Index
  /-- PCNT. -/
  pcnt : Duration
  /-- CPULSE. -/
  cpulse : DescWord
  /-- LINE. -/
  line : LineCount
  /-- CTRL.STD. -/
  std : Std
  /-- `T.horizontal_period`. -/
  horizontalPeriod : Tick
  /-- `T.sync_short`. -/
  syncShort : Tick
  /-- `T.sync_normal`. -/
  syncNormal : Tick
  /-- `T.sync_long`. -/
  syncLong : Tick
deriving DecidableEq, Repr

/-- The output events of the block (R17). -/
inductive Event where
  /-- A transfer is armed (R172). -/
  | arm (addr : Addr) (len : Len) (pclk : PixelClock)
  /-- The trigger is disabled (R175). -/
  | disarm
  /-- `on_scanline` is called (R203). -/
  | scanlineReq (ctx : CtxView)
  /-- `on_vblank` is called (R209). -/
  | vblank (ctx : CtxView)
  /-- The shadow registers are written (R180). -/
  | reprog (period syncw trigofs : Tick)
deriving DecidableEq, Repr

/-- What a reading operation returns to the agent that issued it. -/
inductive Reply where
  /-- RDREG (R224). -/
  | reg (v : BitVec 32)
  /-- RDDIAG (R225). -/
  | diag (active blank : Diag)
  /-- HPER (R148). -/
  | hper (v : Tick)
  /-- SYNCW (R150). -/
  | syncw (v : Tick)
  /-- ISACT (R151). -/
  | isact (v : Bool)
deriving DecidableEq, Repr

/-- What the agents outside the block do (R8); the model's own form of its inputs (log 3). -/
inductive Stimulus where
  /-- HOST puts a word on the command port (R100, R101). -/
  | command (w : OpWord)
  /-- The agent that spec/opcode_table.json names for it issues the operation; `TICK` is TIMER's line-rate event with its service. -/
  | operation (w : OpWord)
  /-- One table word is executed as the word fetched by an advance; only withFetchWord and tests place it (log 11). -/
  | descriptor (w : DescWord)
  /-- A period boundary whose service has not begun yet (R41). -/
  | lineRate
  /-- TIMER counts one tick (R263). -/
  | clk
  /-- XFER takes one step (R67). -/
  | xfer
  /-- The reset input `rst` is asserted (R280). -/
  | rst
deriving DecidableEq, Repr

/-- The state of the machine. Every register of R36, the records of R40, R41 and R263, BUF, the event history of R17,
the configuration (log 1), and the model's own inputs and observations (log 3 to 7, log 22). -/
structure State where
  /-- CTRL = STD, IRQ_EN, RUN (R28). -/
  ctrl : BitVec 4
  /-- PIDX (R21). -/
  pidx : Index
  /-- PCNT (R22). -/
  pcnt : Duration
  /-- CPULSE (R23). -/
  cpulse : DescWord
  /-- LINE (R24). -/
  line : LineCount
  /-- PERIOD_SH (R30). -/
  periodSh : Tick
  /-- PERIOD_ACT (R30). -/
  periodAct : Tick
  /-- SYNCW_SH (R31). -/
  syncwSh : Tick
  /-- SYNCW_ACT (R31). -/
  syncwAct : Tick
  /-- TRIGOFS_SH (R32). -/
  trigofsSh : Tick
  /-- TRIGOFS_ACT (R32). -/
  trigofsAct : Tick
  /-- TRIG_EN (R33). -/
  trigEn : Bool
  /-- DMA_ADDR (R34). -/
  dmaAddr : Addr
  /-- DMA_LEN (R34). -/
  dmaLen : Len
  /-- DMA_PCLK (R34). -/
  dmaPclk : PixelClock
  /-- SL_HSTART (R37). -/
  slHstart : Tick
  /-- SL_LEN (R37). -/
  slLen : Len
  /-- SL_DATA (R37). -/
  slData : Addr
  /-- SL_PCLK (R37). -/
  slPclk : PixelClock
  /-- DIAG_ACTIVE (R35). -/
  diagActive : Diag
  /-- DIAG_BLANK (R35). -/
  diagBlank : Diag
  /-- XFER_BORROW (R40). -/
  xfer : Option Borrow
  /-- TICK_PENDING (R41). -/
  tickPending : Bool
  /-- TCNT, the count of TIMER (R263). -/
  tcnt : Tick
  /-- BUF (R38). -/
  buf : Memory
  /-- The event history (R17), oldest first. -/
  events : List Event
  /-- The tables (R42); written by nothing (R60). -/
  cfg : Configuration
  /-- What the agents outside do next (log 3). -/
  inbox : List Stimulus
  /-- PRODUCER's coming answers (log 5). -/
  answers : List Answer
  /-- How many steps XFER takes in each coming gap between two parts of a service (R68; log 22). -/
  overlap : List Nat
  /-- How many free values have been drawn (log 4). -/
  draws : Nat
  /-- What the reading operations have returned, oldest first (log 6). -/
  replies : List Reply
  /-- What XFER has sent, oldest first (log 7). -/
  serial : List (PixelClock × Byte)
deriving DecidableEq, Repr

/-- The faults, the closed list of R242. A faulted machine has no next state. -/
inductive Fault where
  /-- A period boundary arrives while a service is pending (R290, D25). Raised by TIMER's boundary. Safe: the source gives
  no continuation and the model has none. -/
  | deadlineOverrun
  /-- PRODUCER writes a byte of a present borrow that XFER has not read (R70). Raised by PRODUCE and TICK. Safe: the model
  picks neither the old nor the new byte. -/
  | bufferRace
deriving DecidableEq, Repr

/-- The refusals: the closed list of R241. `notModelled`, which the host's interface asks for, is raised by nothing. -/
inductive Refusal where
  /-- An arm of `exec` without a meaning. No arm is left so. Safe. -/
  | notModelled (mnemonic : String)
  /-- INIT with a table that fails a check of R123, or a fetch past a table without END (R124). Raised by INIT, STEP, END
  and TICK. Safe. -/
  | invalidTable (std : Std) (check : TableCheck)
  /-- INIT with selector 3, or a use of the table of the selector 3, which is never stored (R28, R220). Raised by INIT and
  by every operation that reads the table constants. Safe. -/
  | badStandard
  /-- INIT while RUN is 1 (R221). Raised by INIT. Safe. -/
  | initWhileRunning
  /-- An ARM with pixel clock 3 (R66). Raised by ARB and TICK. Safe. -/
  | badPixelClock
  /-- An ARM of a buffer that wraps the address space (R207). Raised by ARB and TICK. Safe. -/
  | bufferWraps
deriving DecidableEq, Repr

/-- What an operation answers. -/
abbrev Result := Host.Outcome State Fault Refusal

/-- The machine after power-on reset (R43, R280): every register zero, no borrow, TIMER stopped, nothing in BUF, and the
model's own fields empty. -/
def State.reset : State where
  ctrl := 0
  pidx := 0
  pcnt := 0
  cpulse := 0
  line := 0
  periodSh := 0
  periodAct := 0
  syncwSh := 0
  syncwAct := 0
  trigofsSh := 0
  trigofsAct := 0
  trigEn := false
  dmaAddr := 0
  dmaLen := 0
  dmaPclk := 0
  slHstart := 0
  slLen := 0
  slData := 0
  slPclk := 0
  diagActive := 0
  diagBlank := 0
  xfer := none
  tickPending := false
  tcnt := 0
  buf := []
  events := []
  cfg := Configuration.documented
  inbox := []
  answers := []
  overlap := []
  draws := 0
  replies := []
  serial := []

end Sys2Proof.Machine
end

