-- ==== Sys2Proof/Machine/Flags.lean ====
section
/-! DEFINITION. The bits of CTRL (spec/10_state.md R28) and the four flags of CPULSE (R27). No operation of the block
computes a flag: the four are loaded with the descriptor word. -/

namespace Sys2Proof.Machine

/-- CTRL bit 0, RUN (R28). -/
def State.run (s : State) : Bool := s.ctrl.getLsbD 0
/-- CTRL bit 1, IRQ_EN (R28). -/
def State.irqEn (s : State) : Bool := s.ctrl.getLsbD 1
/-- CTRL bits 3:2, STD (R28). -/
def State.std (s : State) : Std := s.ctrl.extractLsb' 2 2
/-- CTRL as INIT leaves it: STD, IRQ_EN = 1, RUN = 1 (R28, R220). -/
def ctrlRunning (std : Std) : BitVec 4 := std ++ 1#1 ++ 1#1

/-- The flag `half_period` (R27), read by HPER. -/
def State.halfPeriod (s : State) : Bool := descHalf s.cpulse
/-- The flag `short_sync` (R27), read by SYNCW. -/
def State.shortSync (s : State) : Bool := descShort s.cpulse
/-- The flag `long_sync` (R27), read by SYNCW. -/
def State.longSync (s : State) : Bool := descLong s.cpulse
/-- The flag `active` (R27): ISACT (R151). -/
def State.isActive (s : State) : Bool := descActive s.cpulse

/-- A line-rate event starts a service only while RUN and IRQ_EN are 1 (R28, R170, R184). -/
def State.serving (s : State) : Bool := s.run && s.irqEn

end Sys2Proof.Machine
end

