-- ==== Sys2Proof/Machine/Operands.lean ====
section
/-! DEFINITION. What the operations read: the selected table, the three derived values (spec/41_step_and_derived.md),
the register numbers (spec/10_state.md R36), the callback's view (spec/43_scanline_handoff.md R201), and PRODUCER's next answer (R202). -/

namespace Sys2Proof.Machine

/-- `T = TABLE[STD]` (R14, R29). -/
def State.table? (s : State) : Option PulseTable := s.cfg.table s.std

/-- HPER (R148): `T.horizontal_period >> (half_period ? 1 : 0)`. -/
def hperOf (t : PulseTable) (w : DescWord) : Tick := t.horizontalPeriod >>> (if descHalf w then 1 else 0)

/-- SYNCW (R150): short before long before normal. -/
def syncwOf (t : PulseTable) (w : DescWord) : Tick :=
  if descShort w then t.syncShort else if descLong w then t.syncLong else t.syncNormal

/-- The trigger offset (R180, R181): always measured with `T.sync_normal`, modulo `2^TICK_W`. -/
def trigofsOf (t : PulseTable) (hstart : Tick) : Tick := hstart + t.syncNormal

/-- `ctx` (R201), with the constants of the table `t`. -/
def ctxView (t : PulseTable) (s : State) : CtxView where
  pidx := s.pidx
  pcnt := s.pcnt
  cpulse := s.cpulse
  line := s.line
  std := s.std
  horizontalPeriod := t.horizontalPeriod
  syncShort := t.syncShort
  syncNormal := t.syncNormal
  syncLong := t.syncLong

/-- The registers of R36 that are registers, by number; the table constants 5 to 8 are not among them. -/
def State.register (s : State) (n : Nat) : BitVec 32 :=
  match n with
  | 0 => s.ctrl.setWidth 32
  | 1 => s.pidx.setWidth 32
  | 2 => s.pcnt.setWidth 32
  | 3 => s.cpulse.setWidth 32
  | 4 => s.line.setWidth 32
  | 9 => s.periodSh.setWidth 32
  | 10 => s.periodAct.setWidth 32
  | 11 => s.syncwSh.setWidth 32
  | 12 => s.syncwAct.setWidth 32
  | 13 => s.trigofsSh.setWidth 32
  | 14 => s.trigofsAct.setWidth 32
  | 15 => (BitVec.ofBool s.trigEn).setWidth 32
  | 16 => s.dmaAddr.setWidth 32
  | 17 => s.dmaLen.setWidth 32
  | 18 => s.dmaPclk.setWidth 32
  | 19 => s.slHstart.setWidth 32
  | 20 => s.slLen.setWidth 32
  | 21 => s.slData.setWidth 32
  | 22 => s.slPclk.setWidth 32
  | 23 => s.diagActive.setWidth 32
  | 24 => s.diagBlank.setWidth 32
  | _ => 0

/-- The table constant with register number `n`, 5 to 8 (R29, R36). -/
def tableConstant (t : PulseTable) (n : Nat) : BitVec 32 :=
  match n with
  | 5 => t.horizontalPeriod.setWidth 32
  | 6 => t.syncShort.setWidth 32
  | 7 => t.syncNormal.setWidth 32
  | 8 => t.syncLong.setWidth 32
  | _ => 0

/-- `zext_32(REG[n])` (R224): 0 while RUN is 0 and for an unlisted number. No value only where a table constant is asked
of the selector 3, which is never stored (R28). -/
def State.readReg (s : State) (n : Byte) : Option (BitVec 32) :=
  if s.run = false then some 0
  else if 5 ≤ n.toNat ∧ n.toNat ≤ 8 then s.table?.map fun t => tableConstant t n.toNat
  else some (s.register n.toNat)

/-- PRODUCER's answer to the next call (R202): the first of the queue; with the queue empty, four free values and no
traffic on BUF (log 5). -/
def State.nextAnswer (s : State) : Answer :=
  match s.answers with
  | a :: _ => a
  | [] => { acts := [], scanline := Config.onScanline s.draws }

/-- The state once that answer is taken. -/
def State.takeAnswer (s : State) : State :=
  match s.answers with
  | _ :: rest => { s with answers := rest }
  | [] => { s with draws := s.draws + 1 }

end Sys2Proof.Machine
end

