-- ==== Sys2Proof/Machine/Ops.lean ====
section
/-! DEFINITION. The shared operations: named updates of the state, the descriptor advance, the line service's parts,
TIMER and XFER, construction and clearing (spec/20_memory.md, spec/41_ to spec/44_, spec/60_exceptions.md). -/

namespace Sys2Proof.Machine

/-! ### Sequencing -/

/-- `r`, then `k` from the state it answers; a fault or a refusal stops there. -/
def andThen (r : Result) (k : State → Result) : Result :=
  match r with
  | .next s => k s
  | .fault f => .fault f
  | .refused c => .refused c

/-- The next state a result answers, if it answers one. -/
def next? (r : Result) : Option State :=
  match r with
  | .next s => some s
  | .fault _ => none
  | .refused _ => none

/-- An operation that reads the selected table; the selector 3 names none (R28; log 20). -/
def withTable (s : State) (k : PulseTable → Result) : Result :=
  match s.table? with
  | some t => k t
  | none => .refused .badStandard

/-! ### Named updates -/

/-- `emit e` (R17). -/
def State.emit (s : State) (e : Event) : State := { s with events := s.events ++ [e] }

/-- A value returned to the agent that reads. -/
def State.tell (s : State) (r : Reply) : State := { s with replies := s.replies ++ [r] }

/-- The period-boundary copy (R171), all three at once (R65); TCNT restarts (R263). Enabled only without a borrow (R69). -/
def State.activate (s : State) : State :=
  { s with periodAct := s.periodSh, syncwAct := s.syncwSh, trigofsAct := s.trigofsSh, tcnt := 0 }

/-- The borrow XFER takes at an ARM (R66): none for an empty buffer. -/
def borrowOf (addr : Addr) (len : Len) (pclk : PixelClock) : Option Borrow :=
  if len = 0 then none else some { addr := addr, len := len, pclk := pclk, done := 0 }

/-- Arming with the latch (R172): the set-up, the trigger enable, the event, XFER's borrow. -/
def State.arm (s : State) : State :=
  { s with
    dmaAddr := s.slData, dmaLen := s.slLen, dmaPclk := s.slPclk, trigEn := true,
    xfer := borrowOf s.slData s.slLen s.slPclk,
    events := s.events ++ [.arm s.slData s.slLen s.slPclk] }

/-- Disabling the trigger (R175): DMA_* keep their values. -/
def State.disarm (s : State) : State := { s with trigEn := false, events := s.events ++ [.disarm] }

/-- Making `w`, fetched at index `i`, the current descriptor: steps 5 and 6 of STEP (R140, R144). -/
def State.makeCurrent (s : State) (i : Index) (w : DescWord) : State :=
  { s with
    pidx := i, cpulse := w, pcnt := descDuration w,
    line := if descActive w = descActive s.cpulse then s.line else 0 }

/-- Steps 1 and 2 of STEP (R141, R142). -/
def State.countDown (s : State) : State := { s with line := s.line + 1, pcnt := s.pcnt - 1 }

/-- Loading the latch with PRODUCER's four values (R203). -/
def State.latch (s : State) (v : Scanline) : State :=
  { s with slHstart := v.hstart, slLen := v.len, slData := v.data, slPclk := v.pclk }

/-- Writing the three shadow registers (R180). -/
def State.loadShadows (s : State) (t : PulseTable) : State :=
  { s with
    periodSh := hperOf t s.cpulse, syncwSh := syncwOf t s.cpulse, trigofsSh := trigofsOf t s.slHstart,
    events := s.events ++ [.reprog (hperOf t s.cpulse) (syncwOf t s.cpulse) (trigofsOf t s.slHstart)] }

/-- Recording a service's duration by the class of the line it prepared (R226); the value is a draw. -/
def State.record (s : State) : State :=
  if s.isActive then { s with diagActive := Config.elapsed s.draws, draws := s.draws + 1 }
  else { s with diagBlank := Config.elapsed s.draws, draws := s.draws + 1 }

/-- Every register at its power-on value, no borrow, TIMER stopped (R43, R222, R280). BUF, the configuration, the
histories and the inputs are no registers and stay (log 19). -/
def State.clear (s : State) : State :=
  { State.reset with
    buf := s.buf, events := s.events, cfg := s.cfg, inbox := s.inbox, answers := s.answers, overlap := s.overlap,
    draws := s.draws, replies := s.replies, serial := s.serial }

/-- The state INIT constructs for standard `std` with table `t` and first descriptor `w` (R220): the context, the output
registers with the timing of `w`, and everything else as after power-on. -/
def State.construct (s : State) (std : Std) (t : PulseTable) (w : DescWord) : State :=
  { s.clear with
    ctrl := ctrlRunning std, pidx := 0, cpulse := w, pcnt := descDuration w, line := 0,
    periodSh := hperOf t w, periodAct := hperOf t w, syncwSh := syncwOf t w, syncwAct := syncwOf t w,
    trigofsSh := t.syncNormal, trigofsAct := t.syncNormal }

/-! ### XFER (R67 to R70) -/

/-- The address of the next byte of a borrow (R64, R67). -/
def nextByteAddr (b : Borrow) : Addr := b.addr + BitVec.ofNat Config.addrW b.done

/-- One step of XFER (R67): the next byte goes to the serial output; the borrow ends with its last byte. Without a
borrow nothing happens. -/
def xferStep (s : State) : State :=
  match s.xfer with
  | none => s
  | some b =>
    if b.done < b.len.toNat then
      { s with
        serial := s.serial ++ [(b.pclk, readByte s.buf (nextByteAddr b).toNat)],
        xfer := if b.done + 1 < b.len.toNat then some { b with done := b.done + 1 } else none }
    else { s with xfer := none }

/-- `k` steps of XFER. -/
def xferSteps : Nat → State → State
  | 0, s => s
  | k + 1, s => xferSteps k (xferStep s)

/-- The steps XFER takes in one gap between two parts of a service, as many as the queue says; none with the queue empty
(R68; DESIGN CHOICE, log 22). -/
def xferMeanwhile (s : State) : State :=
  match s.overlap with
  | [] => s
  | k :: rest => xferSteps k { s with overlap := rest }

/-- A stimulus that needs a boundary waits while a borrow is present (R69): XFER takes its step, and the stimulus stands
at the head of the inbox again (DEDUCED, log 12). -/
def State.waitFor (s : State) (x : Stimulus) : State := { xferStep s with inbox := x :: s.inbox }

/-- Whether the address is one of a borrow's that XFER has not read (R70). -/
def unread (b : Borrow) (a : Addr) : Bool :=
  b.addr.toNat + b.done ≤ a.toNat && a.toNat < b.addr.toNat + b.len.toNat

/-- A store of PRODUCER (R15): into an unread byte of a present borrow it is a race (R70). -/
def producerWrite (a : Addr) (v : Byte) (s : State) : Result :=
  if s.xfer.any fun b => unread b a then .fault .bufferRace
  else .next { s with buf := writeByte s.buf a.toNat v }

/-- What happens on BUF during a call of `on_scanline` (R68, R202). -/
def callAct (x : CallAct) (s : State) : Result :=
  match x with
  | .write a v => producerWrite a v s
  | .xfer => .next (xferStep s)

/-- All that happens during the call, in order. -/
def callActs : List CallAct → State → Result
  | [], s => .next s
  | x :: xs, s => andThen (callAct x s) (callActs xs)

/-! ### The sequencer (R130, R131, R140 to R144) -/

/-- The wrap at END (R130, R143): the descriptor at index 0 becomes current in its place. -/
def wrap (s : State) : Result :=
  withTable s fun t =>
    match t.fetch 0 with
    | some w => .next (s.makeCurrent 0 w)
    | none => .refused (.invalidTable s.std .v1)

/-- The word fetched by an advance, decoded by R93: END wraps, a PULSE becomes current at the incremented index. -/
def acceptDescriptor (w : DescWord) (s : State) : Result :=
  if descDuration w = 0 then wrap s else .next (s.makeCurrent (s.pidx + 1) w)

/-- STEP (R140). A fetch past the table has no meaning (R124, R143). -/
def advance (s : State) : Result :=
  if s.countDown.pcnt ≠ 0 then .next s.countDown
  else withTable s.countDown fun t =>
    match t.fetch (s.countDown.pidx + 1) with
    | some w => acceptDescriptor w s.countDown
    | none => .refused (.invalidTable s.std .v1)

/-! ### The parts of the line service -/

/-- BOUNDARY (R171): the shadow registers become active. It is not enabled while a borrow is present (R69): then it waits. -/
def boundary (s : State) : State :=
  if s.xfer.isNone then s.activate else s.waitFor (.operation (opWord 0x9 0))

/-- ARB (R172), with the two refusals of R241 at an ARM, in the model's order (DESIGN CHOICE, log 15). -/
def arbitrate (s : State) : Result :=
  if s.isActive then
    if s.slPclk = 3 then .refused .badPixelClock
    else if 2 ^ Config.addrW < s.slData.toNat + s.slLen.toNat then .refused .bufferWraps
    else .next s.arm
  else .next s.disarm

/-- PRODUCE (R203): the request, what happens during the call, the latch. -/
def produce (s : State) : Result :=
  withTable s fun t =>
    andThen (callActs s.nextAnswer.acts (s.emit (.scanlineReq (ctxView t s))).takeAnswer) fun s' =>
      .next (s'.latch s.nextAnswer.scanline)

/-- VBLANK (R209). -/
def vblank (s : State) : Result := withTable s fun t => .next (s.emit (.vblank (ctxView t s)))

/-- The dispatch after STEP (R170, R177). -/
def dispatch (s : State) : Result :=
  if s.isActive then produce s else if s.line = 0 then vblank s else .next s

/-- REPROG (R180). -/
def reprogram (s : State) : Result := withTable s fun t => .next (s.loadShadows t)

/-! ### The line-rate interrupt (R245 to R250). It is the only thing the block takes: there is no exception (R240). -/

/-- Entry (R248): nothing is saved and no mode bit changes; the pending record is cleared (R245). The boundary is part of
the entry unless it has happened already and left the event pending (R41, R170; DEDUCED, log 13). -/
def enterService (s : State) : State := if s.tickPending then { s with tickPending := false } else s.activate

/-- Return (R250): the service returns after DIAG, with nothing to restore. -/
def leaveService (s : State) : State := s

/-- The service from ARB to DIAG (R170), with XFER's steps between its parts (R68). -/
def serviceBody (s : State) : Result :=
  andThen (arbitrate s) fun s1 =>
  andThen (advance (xferMeanwhile s1)) fun s2 =>
  andThen (dispatch (xferMeanwhile s2)) fun s3 =>
  andThen (reprogram (xferMeanwhile s3)) fun s4 => .next (leaveService (xferMeanwhile s4).record)

/-- Whether TICK can begin: its boundary has happened already, or no borrow is present (R69). -/
def State.tickEnabled (s : State) : Bool := s.tickPending || s.xfer.isNone

/-- TICK (R170), and nothing while RUN or IRQ_EN is 0 (R184). Its boundary waits while a borrow is present (R69). -/
def service (s : State) : Result :=
  if s.serving then
    if s.tickEnabled then serviceBody (enterService s) else .next (s.waitFor (.operation (opWord 0x8 0)))
  else .next s

/-! ### TIMER (R263) and the sync output (R264) -/

/-- A period boundary whose service has not begun: the event is pending (R41). A second one before the service is the
deadline overrun (R250, R290). While a borrow is present the boundary waits (R69). -/
def lineRate (s : State) : Result :=
  if s.serving then
    if s.tickPending then .fault .deadlineOverrun
    else if s.xfer.isNone then .next { s.activate with tickPending := true }
    else .next (s.waitFor .lineRate)
  else .next s

/-- Whether this tick is the one that completes the period (R263). With PERIOD_ACT = 0, outside the defined behaviour of
TIMER, that is a free value (log 17). -/
def State.periodEnds (s : State) : Bool :=
  if s.periodAct = 0 then Config.zeroPeriodEnds s.draws else s.tcnt + 1 == s.periodAct

/-- The count after a tick that does not complete the period (R263); with PERIOD_ACT = 0 a free value (log 17). -/
def State.nextCount (s : State) : Tick := if s.periodAct = 0 then Config.zeroPeriodCount s.draws else s.tcnt + 1

/-- The count of draws after a tick. -/
def State.countTickDraw (s : State) : State := if s.periodAct = 0 then { s with draws := s.draws + 1 } else s

/-- Whether the next count would reach the trigger offset before the pending service has run ARB, against ArmInTime (R292). -/
def State.armDue (s : State) : Bool := s.serving && s.tickPending && decide (s.trigofsAct ≤ s.nextCount)

/-- One tick of the clock (R263; log 17): TIMER is stopped while RUN is 0, and its boundary comes when TCNT has counted
PERIOD_ACT ticks. A tick that would bring the count to the trigger offset before ARB waits until the pending service has
run (R292, U17; DEDUCED, log 18). -/
def clockTick (s : State) : Result :=
  if s.run then
    if s.periodEnds then lineRate s.countTickDraw
    else if s.armDue then service { s with inbox := .clk :: s.inbox }
    else .next { s.countTickDraw with tcnt := s.nextCount }
  else .next s

/-- The trigger to XFER (R263). -/
def triggerFires (s : State) : Bool := s.run && s.trigEn && s.tcnt == s.trigofsAct

/-- Whether the sync output is asserted (R264); no answer while TIMER is stopped, or with SYNCW_ACT ≥ PERIOD_ACT, which is
outside the defined behaviour. -/
def syncAsserted? (s : State) : Option Bool :=
  if s.run && s.syncwAct < s.periodAct then some (s.tcnt < s.syncwAct) else none

/-! ### Construction (R220) -/

/-- INIT: the three refusals in their order, then the context. -/
def construct (std : Std) (s : State) : Result :=
  if s.run then .refused .initWhileRunning
  else match s.cfg.table std with
    | none => .refused .badStandard
    | some t =>
      match t.firstFailure with
      | some c => .refused (.invalidTable std c)
      | none =>
        match t.fetch 0 with
        | some w => .next (s.construct std t w)
        | none => .refused (.invalidTable std .v1)

/-- TEARDOWN (R222). -/
def teardown (s : State) : State := if s.run then s.clear else s

end Sys2Proof.Machine
end

