-- ==== Sys2Proof/Machine/Descriptors.lean ====
section
/-! DEFINITION. The descriptor kinds (spec/40_pulse_table.md R130, R131; spec/30_encoding.md R103): what becomes of the
sequencer when STEP, advancing, has fetched the word. The six named kinds are PULSEs (log 16). -/

namespace Sys2Proof.Machine

/-- END (R130): the wrap; its flag bits are not read. -/
def execEndMark (_low : Byte) (s : State) : Result := wrap s

/-- PULSE (R131): becomes current; the reserved bits go to CPULSE with the word and are read by nothing (R97). -/
def execPulse (half short long active : Bool) (rsv : BitVec 4) (n : Duration) (s : State) : Result :=
  acceptDescriptor (descWord half short long active rsv n) s

/-- LONG2 n = PULSE 1,0,1,0,n (R103). -/
def execLong2 (n : Duration) (s : State) : Result := acceptDescriptor (descWord true false true false 0 n) s

/-- SHORT2 n = PULSE 1,1,0,0,n (R103). -/
def execShort2 (n : Duration) (s : State) : Result := acceptDescriptor (descWord true true false false 0 n) s

/-- BLANK n = PULSE 0,0,0,0,n (R103). -/
def execBlank (n : Duration) (s : State) : Result := acceptDescriptor (descWord false false false false 0 n) s

/-- ACTIVE n = PULSE 0,0,0,1,n (R103). -/
def execActive (n : Duration) (s : State) : Result := acceptDescriptor (descWord false false false true 0 n) s

/-- SHORT n = PULSE 0,1,0,0,n (R103). -/
def execShort (n : Duration) (s : State) : Result := acceptDescriptor (descWord false true false false 0 n) s

/-- SHORTHALF n = PULSE 1,SHORT_HALF_S,0,0,n (R103). -/
def execShorthalf (shs : Bool) (n : Duration) (s : State) : Result := acceptDescriptor (descWord true shs false false 0 n) s

end Sys2Proof.Machine
end

