-- ==== Sys2Proof/Machine/HostOps.lean ====
section
/-! DEFINITION. The operations HOST issues and the reserved id (spec/44_host_ops.md, spec/30_encoding.md R101). -/

namespace Sys2Proof.Machine

/-- INIT s (R220). -/
def execInit (std : Std) (s : State) : Result := construct std s

/-- TEARDOWN (R222). -/
def execTeardown (s : State) : Result := .next (teardown s)

/-- RDREG n (R224). -/
def execRdreg (n : Byte) (s : State) : Result :=
  match s.readReg n with
  | some v => .next (s.tell (.reg v))
  | none => .refused .badStandard

/-- RDDIAG (R225). -/
def execRddiag (s : State) : Result := .next (s.tell (.diag s.diagActive s.diagBlank))

/-- The reserved id (R101): changes no state and returns nothing. -/
def execReserved (s : State) : Result := .next s

end Sys2Proof.Machine
end

