-- ==== Sys2Proof/Machine/Sequencer.lean ====
section
/-! DEFINITION. STEP and the three derived values (spec/41_step_and_derived.md). -/

namespace Sys2Proof.Machine

/-- STEP (R140). -/
def execStep (s : State) : Result := advance s

/-- HPER (R148): changes no state of the block; the value goes to the reader. -/
def execHper (s : State) : Result := withTable s fun t => .next (s.tell (.hper (hperOf t s.cpulse)))

/-- SYNCW (R150). -/
def execSyncw (s : State) : Result := withTable s fun t => .next (s.tell (.syncw (syncwOf t s.cpulse)))

/-- ISACT (R151). -/
def execIsact (s : State) : Result := .next (s.tell (.isact s.isActive))

end Sys2Proof.Machine
end

