-- ==== Sys2Proof/Machine/Service.lean ====
section
/-! DEFINITION. TICK and its sub-operations (spec/42_line_service.md, spec/43_scanline_handoff.md, spec/44_host_ops.md
R226). A sub-operation is never issued alone (R100): its meaning here is its pseudocode, and when it runs is TICK's matter (log 16). -/

namespace Sys2Proof.Machine

/-- TICK (R170, R184). -/
def execTick (s : State) : Result := service s

/-- BOUNDARY (R171). -/
def execBoundary (s : State) : Result := .next (boundary s)

/-- ARB (R172). -/
def execArb (s : State) : Result := arbitrate s

/-- PRODUCE (R203). -/
def execProduce (s : State) : Result := produce s

/-- VBLANK (R209). -/
def execVblank (s : State) : Result := vblank s

/-- REPROG (R180). -/
def execReprog (s : State) : Result := reprogram s

/-- DIAG (R226). -/
def execDiag (s : State) : Result := .next s.record

end Sys2Proof.Machine
end

