-- ==== Sys2Proof/Machine/Dispatch.lean ====
section
/-! DEFINITION. The meaning of every instruction, one arm for each constructor. -/

namespace Sys2Proof.Machine

def exec (i : Instr) (s : State) : Host.Outcome State Fault Refusal :=
  match i with
  | .endMark low => Sys2Proof.Machine.execEndMark low s
  | .pulse h sh l a r n => Sys2Proof.Machine.execPulse h sh l a r n s
  | .long2 n => Sys2Proof.Machine.execLong2 n s
  | .short2 n => Sys2Proof.Machine.execShort2 n s
  | .blank n => Sys2Proof.Machine.execBlank n s
  | .active n => Sys2Proof.Machine.execActive n s
  | .short n => Sys2Proof.Machine.execShort n s
  | .shorthalf shs n => Sys2Proof.Machine.execShorthalf shs n s
  | .init std => Sys2Proof.Machine.execInit std s
  | .teardown => Sys2Proof.Machine.execTeardown s
  | .rdreg n => Sys2Proof.Machine.execRdreg n s
  | .rddiag => Sys2Proof.Machine.execRddiag s
  | .hper => Sys2Proof.Machine.execHper s
  | .syncw => Sys2Proof.Machine.execSyncw s
  | .isact => Sys2Proof.Machine.execIsact s
  | .tick => Sys2Proof.Machine.execTick s
  | .boundary => Sys2Proof.Machine.execBoundary s
  | .arb => Sys2Proof.Machine.execArb s
  | .step => Sys2Proof.Machine.execStep s
  | .produce => Sys2Proof.Machine.execProduce s
  | .vblank => Sys2Proof.Machine.execVblank s
  | .reprog => Sys2Proof.Machine.execReprog s
  | .diag => Sys2Proof.Machine.execDiag s
  | .reserved => Sys2Proof.Machine.execReserved s

end Sys2Proof.Machine
end

