-- ==== Sys2Proof/Machine/Fetch.lean ====
section
/-! DEFINITION. What one stimulus of the inbox does, and what the machine does with none (spec/00_scope.md R8). -/

namespace Sys2Proof.Machine

/-- An instruction that a decoder has read. Bits that are none change no state and return nothing, as R101 says of a
command that is none of HOST's (DESIGN CHOICE, log 9). -/
def runDecoded (r : Except DecodeError Instr) (s : State) : Result :=
  match r with
  | .ok i => exec i s
  | .error _ => .next s

/-- One stimulus. -/
def react (x : Stimulus) (s : State) : Result :=
  match x with
  | .command w => runDecoded (decodeCommand w) s
  | .operation w => runDecoded (decodeOperation w) s
  | .descriptor w => runDecoded (.ok (decodeDescriptor w)) s
  | .lineRate => lineRate s
  | .clk => clockTick s
  | .xfer => .next (xferStep s)
  | .rst => .next s.clear

/-- With nothing in the inbox: a pending line-rate event is served (R245), and otherwise TIMER counts one tick (R263). -/
def idle (s : State) : Result := if s.tickPending then exec .tick s else clockTick s

/-- One step: the head of the inbox, or the machine by itself (log 3). -/
def stepOnce (s : State) : Result :=
  match s.inbox with
  | [] => idle s
  | x :: rest => react x { s with inbox := rest }

/-- The stimulus that carries one row's bits: one byte of bits is an operation, two are a table word. -/
def fetchStimulus (nbits w : Nat) : Stimulus :=
  if nbits ≤ 8 then .operation (BitVec.ofNat 16 w) else .descriptor (BitVec.ofNat 16 w)

end Sys2Proof.Machine
end

