-- ==== Sys2Proof/Machine/Step.lean ====
section
/-! DEFINITION. One step of the machine, and the place a step takes its next instruction from (log 3, log 11). -/

namespace Sys2Proof.Machine

/-- One step. -/
def step (s : State) : Host.Outcome State Fault Refusal := stepOnce s

/-- `s` with one row's bits at the head of the inbox, where the next step takes its instruction from. -/
def State.withFetchWord (s : State) (nbits w : Nat) : State := { s with inbox := fetchStimulus nbits w :: s.inbox }

end Sys2Proof.Machine
end

