-- ==== Sys2Proof/Safety.lean ====
section
/-! DEFINITION. The terms claims are made in: which inputs real agents give, the premises of R283, what a run keeps, and
what a safe answer is. Every predicate is a Bool. -/

namespace Sys2Proof.Machine

/-! ### Inputs -/

/-- The operations some agent issues by itself (R100): HOST's four, the three derived values, TIMER's TICK, and the ignored
id. A sub-operation is never issued alone, and a descriptor is fetched by STEP only. -/
def issuable : Instr → Bool
  | .endMark _ => false
  | .pulse _ _ _ _ _ _ => false
  | .long2 _ => false
  | .short2 _ => false
  | .blank _ => false
  | .active _ => false
  | .short _ => false
  | .shorthalf _ _ => false
  | .init _ => true
  | .teardown => true
  | .rdreg _ => true
  | .rddiag => true
  | .hper => true
  | .syncw => true
  | .isact => true
  | .tick => true
  | .boundary => false
  | .arb => false
  | .step => false
  | .produce => false
  | .vblank => false
  | .reprog => false
  | .diag => false
  | .reserved => true

/-- A stimulus that an agent of R8 can give. -/
def realStimulus : Stimulus → Bool
  | .command _ => true
  | .operation w =>
    match decodeOperation w with
    | .ok i => issuable i
    | .error _ => false
  | .descriptor _ => false
  | .lineRate => true
  | .clk => true
  | .xfer => true
  | .rst => true

/-! ### Answers -/

/-- An answer that is no fault. -/
def faultFree : Result → Bool
  | .next _ => true
  | .fault _ => false
  | .refused _ => true

/-- The machine goes on. -/
def completes : Result → Bool
  | .next _ => true
  | .fault _ => false
  | .refused _ => false

/-- A result with a view taken of its next state. -/
def mapNext (f : State → State) (r : Result) : Result :=
  match r with
  | .next s => .next (f s)
  | .fault e => .fault e
  | .refused c => .refused c

/-- The view that hides the diagnostic counters. -/
def hideDiagnostics (s : State) : State := { s with diagActive := 0, diagBlank := 0 }

/-- The view that hides BUF and the bytes sent from it. -/
def hidePixels (s : State) : State := { s with buf := [], serial := [] }

/-! ### What a run keeps -/

/-- The context describes an entry of the selected, valid table (R21 to R23, R145). -/
def State.contextFits (s : State) : Bool :=
  match s.table? with
  | some t =>
    t.valid && decide (s.pidx.toNat + 1 < t.desc.length) && t.fetch s.pidx == some s.cpulse &&
      decide (1 ≤ s.pcnt.toNat) && decide (s.pcnt.toNat ≤ (descDuration s.cpulse).toNat)
  | none => false

/-- A borrow that is present has bytes left, does not wrap the address space and has a preset (R66, R67, R207). -/
def borrowFits (b : Borrow) : Bool :=
  decide (b.done < b.len.toNat) && decide (b.addr.toNat + b.len.toNat ≤ 2 ^ Config.addrW) && b.pclk != 3

/-! ### The premises of R283, at the state they are about (log 12, log 13, log 18) -/

/-- `ValidTable`: the selected table passes R123. -/
def validTable (s : State) : Bool := s.table?.any PulseTable.valid

/-- `DeadlineMet`: the boundary finds no service pending (R290). -/
def deadlineMet (s : State) : Bool := !s.tickPending

/-- `ArmInTime`: at the ARB of every service TIMER has not reached the trigger offset of the line just begun (R292). It
covers an inactive line too, at which ARB has to clear TRIG_EN before the trigger. -/
def armInTime (s : State) : Bool := decide (s.tcnt < s.trigofsAct)

/-- `TransferFits`: no borrow is present at the boundary (R69). -/
def transferFits (s : State) : Bool := s.xfer.isNone

/-- `PlatformSane`: `PERIOD_ACT >= 2` and `SYNCW_ACT < PERIOD_ACT` (R283). -/
def platformSane (s : State) : Bool := decide (2 ≤ s.periodAct.toNat) && decide (s.syncwAct < s.periodAct)

/-- While an event is pending its boundary has happened, so that no borrow is present (R69), and the count is still the
boundary's own or below the trigger offset (R292). -/
def State.pendingFits (s : State) : Bool := !s.tickPending || (transferFits s && (s.tcnt == 0 || armInTime s))

/-- What every step keeps: BUF in its canonical form; a borrow only as an ARM leaves it; a pending event only as a boundary
and the clock leave it; while RUN is 1 the interrupt enabled and the context on the table; while RUN is 0 every register at
its power-on value (R280); only inputs of real agents. -/
def State.consistent (s : State) : Bool :=
  s.buf.wf && s.xfer.all borrowFits && s.pendingFits &&
    (if s.run then s.irqEn && s.contextFits else decide (s = s.clear)) && s.inbox.all realStimulus

/-- Whether an address is one of a borrow's bytes. -/
def borrowed (b : Borrow) (a : Addr) : Bool :=
  decide (b.addr.toNat ≤ a.toNat) && decide (a.toNat < b.addr.toNat + b.len.toNat)

/-- What keeps a call clear of the race: no store into a borrowed byte (P3, P8). -/
def avoids (b : Option Borrow) : CallAct → Bool
  | .write a _ => !(b.any fun b => borrowed b a)
  | .xfer => true

/-- An ARM that the block can make from its latch (R66, R207). -/
def latchFits (s : State) : Bool :=
  s.slPclk != 3 && decide (s.slData.toNat + s.slLen.toNat ≤ 2 ^ Config.addrW)

/-! ### `ProducerContract` (R283): the obligations of R204. P1 holds of every `Answer`, which has all four values, and P7
of every call, which has an end (log 18). P4's second clause is `transferFits`. -/

/-- A scanline buffer of PRODUCER. -/
structure Region where
  /-- Its first address. -/
  base : Addr
  /-- Its bytes. -/
  size : Nat
deriving DecidableEq, Repr

/-- The two alternating buffers `B0` and `B1` (R205, R282). -/
structure ScanBuffers where
  /-- `B0`. -/
  b0 : Region
  /-- `B1`. -/
  b1 : Region
deriving DecidableEq, Repr

/-- Whether the region holds the bytes `[a, a + n)`. -/
def Region.holds (r : Region) (a n : Nat) : Bool := decide (r.base.toNat ≤ a) && decide (a + n ≤ r.base.toNat + r.size)

/-- Two regions without a common byte. -/
def Region.apart (r r' : Region) : Bool :=
  decide (r.base.toNat + r.size ≤ r'.base.toNat) || decide (r'.base.toNat + r'.size ≤ r.base.toNat)

/-- The number of the buffer that the parity of the new line index selects (R205). -/
def bufferIndex (line : LineCount) : Nat := line.toNat % Config.nbuf

/-- The buffer the parity rule selects. -/
def ScanBuffers.select (bs : ScanBuffers) (line : LineCount) : Region := if bufferIndex line = 0 then bs.b0 else bs.b1

/-- Whether what happens during a call stores only into the region. -/
def storesInto (r : Region) : CallAct → Bool
  | .write a _ => r.holds a.toNat 1
  | .xfer => true

/-- The trailing zero byte of P2, in the BUF the call leaves. -/
def trailingZero (m : Memory) (v : Scanline) : Bool := readByte m (v.data.toNat + v.len.toNat - 1) == 0

/-- P2: at least one byte, and the last one zero when the call returns. -/
def contractP2 (s : State) (a : Answer) : Bool :=
  decide (1 ≤ a.scanline.len.toNat) && (next? (callActs a.acts s)).any fun s' => trailingZero s'.buf a.scanline

/-- P3: the buffer is the one selected by the parity of LINE after STEP, is apart from the other one, takes every store of
the call, and is not the one XFER is draining. -/
def contractP3 (bs : ScanBuffers) (s : State) (a : Answer) : Bool :=
  bs.b0.apart bs.b1 && (bs.select s.line).holds a.scanline.data.toNat a.scanline.len.toNat &&
    a.acts.all (storesInto (bs.select s.line)) &&
    s.xfer.all fun b => (bs.select s.line).apart { base := b.addr, size := b.len.toNat }

/-- P4, its first clause: the start offset does not wrap. -/
def contractP4 (t : PulseTable) (v : Scanline) : Bool := decide (v.hstart.toNat + t.syncNormal.toNat < 2 ^ Config.tickW)

/-- P5: the buffer does not wrap the address space. -/
def contractP5 (v : Scanline) : Bool := decide (v.data.toNat + v.len.toNat ≤ 2 ^ Config.addrW)

/-- P6: a preset. -/
def contractP6 (v : Scanline) : Bool := v.pclk != 3

/-- P8: no store of the call goes to a byte that XFER still has to read; between two calls nobody stores to BUF (R61). -/
def contractP8 (s : State) (a : Answer) : Bool := faultFree (callActs a.acts s)

/-- `ProducerContract` for the answer to a call made in the state `s`, after STEP, with the buffers `bs` and the table `t`. -/
def producerContract (bs : ScanBuffers) (t : PulseTable) (s : State) (a : Answer) : Bool :=
  contractP2 s a && contractP3 bs s a && contractP4 t a.scanline && contractP5 a.scanline && contractP6 a.scanline &&
    contractP8 s a

/-! ### Several steps -/

/-- `k` STEPs of the sequencer, one after another. -/
def walk : Nat → State → Result
  | 0, s => .next s
  | k + 1, s => andThen (exec .step s) (walk k)

/-- `k` steps of the machine, one after another. -/
def stepTimes : Nat → State → Result
  | 0, s => .next s
  | k + 1, s => andThen (step s) (stepTimes k)

/-- The descriptor of every pulse unit of one cycle, in order (R125, R147). -/
def unitDescriptors (t : PulseTable) : List DescWord :=
  t.desc.flatMap fun w => List.replicate (descDuration w).toNat w

end Sys2Proof.Machine
end

