-- ==== Sys2Proof/Certificates/Slice0/Obligations.lean ====
section
/-! DEFINITION. The statements about the machine, each from the rules of spec/ its docstring names. -/

open Sys2Proof Sys2Proof.Machine

/-! ### Encoding -/

/-- A few words written out from R92, R100 and R103 are the instructions they stand for. The place of an operation's
operand is the model's choice (log 9), and so is the name of a word that two rows share (log 10). -/
def Obligations.TabulatedWordsDecode : Prop :=
  decodeDescriptor 0x0000#16 = .endMark 0 ∧ decodeDescriptor 0x0505#16 = .long2 5 ∧
  decodeDescriptor 0x0503#16 = .short2 5 ∧ decodeDescriptor 0x2E00#16 = .blank 46 ∧
  decodeDescriptor 0xE608#16 = .active 230 ∧ decodeDescriptor 0x0102#16 = .short 1 ∧
  decodeDescriptor 0x0101#16 = .shorthalf false 1 ∧
  decodeDescriptor 0x0209#16 = .pulse true false false true 0 2 ∧
  decodeDescriptor 0x0106#16 = .pulse false true true false 0 1 ∧
  decodeDescriptor 0x00FF#16 = .endMark 0xFF ∧ decodeDescriptor 0x0110#16 = .pulse false false false false 1 1 ∧
  decodeOperation 0x0201#16 = .ok (.init 2) ∧ decodeOperation 0x1803#16 = .ok (.rdreg 24) ∧
  decodeOperation 0x0008#16 = .ok .tick ∧ decodeOperation 0x000F#16 = .ok .diag ∧ decodeOperation 0x0000#16 = .ok .reserved

/-- R93: the word is END exactly when its duration bits are 0 (mask 0xFF00, match 0), and every other word is the PULSE
whose operands are its own fields, under the decoder's name for it (log 10). -/
def Obligations.DurationDecidesEndAndPulse : Prop :=
  ∀ w : DescWord,
    (w &&& 0xFF00#16 = 0#16 → decodeDescriptor w = .endMark (w.extractLsb' 0 8)) ∧
    (w &&& 0xFF00#16 ≠ 0#16 → decodeDescriptor w =
      (Instr.pulse (w.getLsbD 0) (w.getLsbD 1) (w.getLsbD 2) (w.getLsbD 3) (w.extractLsb' 4 4) (w.extractLsb' 8 8)).canonical)

/-- Decode and encode agree for every well-formed instruction with every operand, whatever bytes follow: what the decoder
reads from the instruction's bytes is the instruction, under the one name the decoder has for words that two rows share
(log 9, log 10). -/
def Obligations.EveryInstructionDecodesFromItsBytes : Prop :=
  ∀ (i : Instr) (rest : List Byte), i.wf = true → decodeBytes i.format (encodeBytes i ++ rest) = .ok (i.canonical, rest)

/-- The name the decoder uses loses nothing: same bits and same meaning in every state (R103). -/
def Obligations.SharedNamesMeanTheSame : Prop :=
  ∀ (i : Instr) (s : State), encode i.canonical = encode i ∧ exec i.canonical s = exec i s

/-- Every 16-bit word is the encoding of the well-formed instruction it decodes to: no bit of a table word is dropped. -/
def Obligations.EveryTableWordIsAnEncoding : Prop :=
  ∀ w : DescWord, encode (decodeDescriptor w) = (.table, w) ∧ (decodeDescriptor w).wf = true

/-! ### The step -/

/-- A step whose inbox begins with a word runs the instruction the word decodes to, on the state with the word taken out
(log 3). A word that decodes to none is taken out and does nothing: the model's choice (log 9). -/
def Obligations.StepRunsTheDecodedInstruction : Prop :=
  ∀ (s : State) (rest : List Stimulus) (w : BitVec 16),
    (s.inbox = .descriptor w :: rest → step s = exec (decodeDescriptor w) { s with inbox := rest }) ∧
    (∀ i, decodeOperation w = .ok i → s.inbox = .operation w :: rest → step s = exec i { s with inbox := rest }) ∧
    (∀ i, decodeCommand w = .ok i → s.inbox = .command w :: rest → step s = exec i { s with inbox := rest }) ∧
    (∀ e, decodeOperation w = .error e → s.inbox = .operation w :: rest → step s = .next { s with inbox := rest }) ∧
    (∀ e, decodeCommand w = .error e → s.inbox = .command w :: rest → step s = .next { s with inbox := rest })

/-- The instruction placed by withFetchWord is the one the next step runs, on the state it was placed in (log 11). -/
def Obligations.PlacedWordRunsNext : Prop :=
  ∀ (s : State) (nbits w : Nat) (i : Instr), decodeTableWord nbits w = some i → step (s.withFetchWord nbits w) = exec i s

/-- With nothing from outside, a pending line-rate event is served (R245), and otherwise TIMER counts one tick (R263): the
tick that completes the period is the boundary, which waits while a borrow is present (R69, log 12); a stopped TIMER leaves
the state as it is. The model's schedule, log 3. -/
def Obligations.MachineRunsByItself : Prop :=
  ∀ s : State, s.inbox = [] →
    (s.tickPending = true → step s = exec .tick s) ∧
    (s.tickPending = false → s.run = true → s.periodAct ≠ 0 → s.tcnt + 1 ≠ s.periodAct →
      step s = .next { s with tcnt := s.tcnt + 1 }) ∧
    (s.tickPending = false → s.run = true → s.irqEn = true → s.periodAct ≠ 0 → s.tcnt + 1 = s.periodAct → s.xfer = none →
      step s = .next
        { s with periodAct := s.periodSh, syncwAct := s.syncwSh, trigofsAct := s.trigofsSh, tcnt := 0,
                 tickPending := true }) ∧
    (s.tickPending = false → s.run = true → s.irqEn = true → s.periodAct ≠ 0 → s.tcnt + 1 = s.periodAct → s.xfer ≠ none →
      step s = .next { xferStep s with inbox := [.lineRate] }) ∧
    (s.tickPending = false → s.run = false → step s = .next s)

/-! ### Descriptors -/

/-- R130: END makes the first descriptor current in its place, within the same step; its own bits are not read. -/
def Obligations.EndWrapsToTheFirstDescriptor : Prop :=
  ∀ (s : State) (low : Byte) (t : PulseTable) (w : DescWord), s.table? = some t → t.desc.head? = some w →
    exec (.endMark low) s = .next
      { s with pidx := 0, cpulse := w, pcnt := w.extractLsb' 8 8,
               line := if w.getLsbD 3 = s.cpulse.getLsbD 3 then s.line else 0 }

/-- R131: a PULSE becomes current at the next index with its flags and its duration; where its `active` differs from the
predecessor's, LINE is set to 0. Nothing else changes. -/
def Obligations.PulseBecomesCurrent : Prop :=
  ∀ (s : State) (h sh l a : Bool) (r : BitVec 4) (n : Duration), n ≠ 0 →
    ∃ w : DescWord,
      exec (.pulse h sh l a r n) s = .next
        { s with pidx := s.pidx + 1, cpulse := w, pcnt := n,
                 line := if a = s.cpulse.getLsbD 3 then s.line else 0 } ∧
      w.getLsbD 0 = h ∧ w.getLsbD 1 = sh ∧ w.getLsbD 2 = l ∧ w.getLsbD 3 = a ∧ w.extractLsb' 4 4 = r ∧
      w.extractLsb' 8 8 = n

/-- R103, R131: each named kind becomes current with the flags byte of R103's table; SHORTHALF with SHORT_HALF_S = 1 and
with SHORT_HALF_S = 0. -/
def Obligations.NamedKindsBecomeCurrent : Prop :=
  ∀ (s : State) (n : Duration), n ≠ 0 →
    let after (f : Byte) (a : Bool) : State :=
      { s with pidx := s.pidx + 1, cpulse := n ++ f, pcnt := n, line := if a = s.cpulse.getLsbD 3 then s.line else 0 }
    exec (.long2 n) s = .next (after 0x05 false) ∧ exec (.short2 n) s = .next (after 0x03 false) ∧
    exec (.blank n) s = .next (after 0x00 false) ∧ exec (.active n) s = .next (after 0x08 true) ∧
    exec (.short n) s = .next (after 0x02 false) ∧ exec (.shorthalf true n) s = .next (after 0x03 false) ∧
    exec (.shorthalf false n) s = .next (after 0x01 false)

/-! ### The sequencer -/

/-- R140 to R142: inside a descriptor STEP counts LINE up and PCNT down, and changes nothing else. -/
def Obligations.StepCountsDown : Prop :=
  ∀ s : State, s.pcnt ≠ 1 → exec .step s = .next { s with line := s.line + 1, pcnt := s.pcnt - 1 }

/-- R140, R143, R144: at the end of a descriptor STEP makes the next one current. -/
def Obligations.StepAdvancesToTheNextDescriptor : Prop :=
  ∀ (s : State) (t : PulseTable) (w : DescWord), s.pcnt = 1 → s.table? = some t → t.fetch (s.pidx + 1) = some w →
    w.extractLsb' 8 8 ≠ 0#8 →
    exec .step s = .next
      { s with pidx := s.pidx + 1, cpulse := w, pcnt := w.extractLsb' 8 8,
               line := if w.getLsbD 3 = s.cpulse.getLsbD 3 then s.line + 1 else 0 }

/-- R140, R143, R144: when the next word is END, STEP makes descriptor 0 current in the same step. -/
def Obligations.StepWrapsAtEnd : Prop :=
  ∀ (s : State) (t : PulseTable) (w w0 : DescWord), s.pcnt = 1 → s.table? = some t → t.fetch (s.pidx + 1) = some w →
    w.extractLsb' 8 8 = 0#8 → t.desc.head? = some w0 →
    exec .step s = .next
      { s with pidx := 0, cpulse := w0, pcnt := w0.extractLsb' 8 8,
               line := if w0.getLsbD 3 = s.cpulse.getLsbD 3 then s.line + 1 else 0 }

/-- STEP on a table that has no word at PIDX + 1 is refused, and the refusal names check V1: both are the model's choice
(log 14). R124 gives the walk past a table without END no meaning, and the refusal it states is INIT's. -/
def Obligations.StepRefusesPastTheTable : Prop :=
  ∀ (s : State) (t : PulseTable), s.pcnt = 1 → s.table? = some t → t.fetch (s.pidx + 1) = none →
    exec .step s = .refused (.invalidTable s.std .v1)

/-- R145: from a context on a valid table STEP goes through, the context is on the table again, and only the four context
registers change. -/
def Obligations.StepKeepsTheContextOnTheTable : Prop :=
  ∀ s : State, s.contextFits = true →
    ∃ s', exec .step s = .next s' ∧ s'.contextFits = true ∧
      s' = { s with pidx := s'.pidx, pcnt := s'.pcnt, cpulse := s'.cpulse, line := s'.line }

/-- R144: LINE becomes 0 exactly when the flag `active` of the context changes, and is one more otherwise; away from
LINE's last value it is 0 at an edge and nowhere else. -/
def Obligations.LineResetsExactlyAtEdges : Prop :=
  ∀ s s' : State, exec .step s = .next s' →
    (s'.cpulse.getLsbD 3 ≠ s.cpulse.getLsbD 3 → s'.line = 0) ∧
    (s'.cpulse.getLsbD 3 = s.cpulse.getLsbD 3 → s'.line = s.line + 1) ∧
    (s.line.toNat + 1 < 2 ^ Config.lineW → (s'.line = 0 ↔ s'.cpulse.getLsbD 3 ≠ s.cpulse.getLsbD 3))

/-- R125: from the context INIT constructs, with any valid table, the walk goes through for one whole cycle; it is back at
that context after exactly `U(T)` STEPs, and not before. -/
def Obligations.WalkReturnsAfterExactlyOneCycle : Prop :=
  ∀ (s : State) (t : PulseTable) (w : DescWord), s.table? = some t → t.valid = true → t.desc.head? = some w →
    s.pidx = 0 → s.cpulse = w → s.pcnt = w.extractLsb' 8 8 →
    (∃ s', walk t.unitsPerCycle s = .next s' ∧ s'.pidx = 0 ∧ s'.cpulse = w ∧ s'.pcnt = w.extractLsb' 8 8) ∧
    (∀ (k : Nat) (s' : State), 0 < k → k < t.unitsPerCycle → walk k s = .next s' →
      ¬ (s'.pidx = 0 ∧ s'.cpulse = w ∧ s'.pcnt = w.extractLsb' 8 8))

/-- R147 (the corrected end-to-end law): during the pulse units of one cycle the current descriptors are the table's
entries in order, each for as many units as its duration. -/
def Obligations.DescriptorsAreCurrentInTableOrder : Prop :=
  ∀ (s s' : State) (t : PulseTable) (w : DescWord) (k : Nat), s.table? = some t → t.valid = true →
    t.desc.head? = some w → s.pidx = 0 → s.cpulse = w → s.pcnt = w.extractLsb' 8 8 →
    k < t.unitsPerCycle → walk k s = .next s' → (unitDescriptors t)[k]? = some s'.cpulse

/-- R127, R128: the documented table of standard 0 is valid with 625 lines, whatever its tick constants and
SHORT_HALF_S, and has 640 pulse units. -/
def Obligations.DocumentedTableIsValid : Prop :=
  ∀ (hp ss sn sl : Tick) (shs : Bool),
    let t : PulseTable :=
      { horizontalPeriod := hp, syncShort := ss, syncNormal := sn, syncLong := sl, desc := documentedDescriptors shs,
        totalLines := 625 }
    t.valid = true ∧ t.unitsPerCycle = 640

/-- R148: HPER has the operation id 0x5, returns `T.horizontal_period >> (half_period ? 1 : 0)`, and changes nothing else.
The history of replies is the model's form of a returned value (log 6), and the place of the id in a word is its choice
(log 9). -/
def Obligations.HperReturnsThePeriod : Prop :=
  opId Instr.hper.word = 0x5#4 ∧ ∀ (s : State) (t : PulseTable), s.table? = some t →
    exec .hper s = .next
      { s with replies := s.replies ++
          [.hper (if s.cpulse.getLsbD 0 then t.horizontalPeriod >>> 1 else t.horizontalPeriod)] }

/-- R150: SYNCW has the operation id 0x6, and returns the short width if `short_sync` is set, else the long width if `long_sync` is set, else the
normal width; `half_period`, `active` and the duration have no influence. The history of replies is the model's form of a
returned value (log 6), and the place of the id in a word is its choice (log 9). -/
def Obligations.SyncwReturnsTheWidth : Prop :=
  opId Instr.syncw.word = 0x6#4 ∧ ∀ (s : State) (t : PulseTable), s.table? = some t →
    exec .syncw s = .next
      { s with replies := s.replies ++
          [.syncw (if s.cpulse.getLsbD 1 then t.syncShort else if s.cpulse.getLsbD 2 then t.syncLong else t.syncNormal)] }

/-- R151: ISACT has the operation id 0x7, and returns `CPULSE.active`. The history of replies is the model's form of a
returned value (log 6), and the place of the id in a word is its choice (log 9). -/
def Obligations.IsactReturnsTheFlag : Prop :=
  opId Instr.isact.word = 0x7#4 ∧ ∀ s : State, exec .isact s = .next { s with replies := s.replies ++ [.isact (s.cpulse.getLsbD 3)] }

/-! ### The line service -/

/-- R171, R263: with no transfer in flight BOUNDARY copies the three shadow registers, restarts TCNT, and changes nothing
else. -/
def Obligations.BoundaryActivatesTheShadows : Prop :=
  ∀ s : State, s.xfer = none →
    exec .boundary s = .next
      { s with periodAct := s.periodSh, syncwAct := s.syncwSh, trigofsAct := s.trigofsSh, tcnt := 0 }

/-- R67, R69: a boundary is not enabled while a borrow is present. BOUNDARY and TICK then wait: XFER takes its next step, and
the operation stands at the head of the inbox again. A boundary of TIMER or a TICK at the head of the inbox waits so until
the bytes left are sent, in ascending order of address and each once; then the state is as before but for the borrow and
the bytes sent. How a boundary waits is the model's form of 'not enabled' (log 12). -/
def Obligations.BoundaryComesAfterTheTransfer : Prop :=
  ∀ (s : State) (b : Borrow), s.xfer = some b → b.done < b.len.toNat →
    let after (n : Nat) : State :=
      { s with
        xfer := if b.done + n = b.len.toNat then none else some { b with done := b.done + n },
        serial := s.serial ++ (List.range' b.done n).map fun k =>
          (b.pclk, readByte s.buf ((b.addr.toNat + k) % 2 ^ Config.addrW)) }
    exec .boundary s = .next { after 1 with inbox := .operation (Instr.boundary.word) :: s.inbox } ∧
    (s.run = true → s.irqEn = true → s.tickPending = false →
      exec .tick s = .next { after 1 with inbox := .operation (Instr.tick.word) :: s.inbox } ∧
      (∀ rest, s.inbox = .lineRate :: rest ∨ s.inbox = .operation (Instr.tick.word) :: rest →
        ∀ n, b.done + n ≤ b.len.toNat → stepTimes n s = .next (after n)))

/-- R172, R66: at an active line ARB arms the transfer of the latched buffer; XFER's borrow is absent for an empty one. -/
def Obligations.ArbArmsTheLatchedBuffer : Prop :=
  ∀ s : State, s.cpulse.getLsbD 3 = true → s.slPclk ≠ 3 → s.slData.toNat + s.slLen.toNat ≤ 2 ^ Config.addrW →
    exec .arb s = .next
      { s with
        dmaAddr := s.slData, dmaLen := s.slLen, dmaPclk := s.slPclk, trigEn := true,
        events := s.events ++ [.arm s.slData s.slLen s.slPclk],
        xfer := if s.slLen = 0 then none else some { addr := s.slData, len := s.slLen, pclk := s.slPclk, done := 0 } }

/-- R175: at an inactive line ARB clears TRIG_EN, emits DISARM at every such line, and keeps DMA_ADDR, DMA_LEN and
DMA_PCLK; it takes no borrow. Afterwards no count of TIMER fires the trigger. -/
def Obligations.ArbDisarmsAtAnInactiveLine : Prop :=
  ∀ s : State, s.cpulse.getLsbD 3 = false →
    exec .arb s = .next { s with trigEn := false, events := s.events ++ [.disarm] } ∧
    ∀ s', exec .arb s = .next s' → ∀ count : Tick, triggerFires { s' with tcnt := count } = false

/-- R66, R207, R241: the two refusals at an ARM; which comes first where both apply is the model's choice (log 15). -/
def Obligations.ArbRefusesBadTransfers : Prop :=
  ∀ s : State, s.cpulse.getLsbD 3 = true →
    (s.slPclk = 3 → exec .arb s = .refused .badPixelClock) ∧
    (s.slPclk ≠ 3 → 2 ^ Config.addrW < s.slData.toNat + s.slLen.toNat → exec .arb s = .refused .bufferWraps)

/-- R203: PRODUCE emits the request with the context, takes PRODUCER's answer, and latches its four values; a call that
stays clear of the borrowed bytes goes through. BUF afterwards reads the last byte stored at an address, and what it read
before at every address not stored to. XFER's borrow and output are what its steps during the call make of them (R67, R68):
as before without one. Only the latch, the event history, the queue of answers, BUF, and XFER's own borrow and output
change. The queue is log 5. -/
def Obligations.ProduceLatchesTheAnswer : Prop :=
  ∀ (s : State) (t : PulseTable) (a : Answer) (rest : List Answer), s.table? = some t → s.answers = a :: rest →
    a.acts.all (avoids s.xfer) = true → s.buf.wf = true →
    ∃ s', exec .produce s = .next s' ∧
      s' = { s with
        slHstart := a.scanline.hstart, slLen := a.scanline.len, slData := a.scanline.data, slPclk := a.scanline.pclk,
        events := s.events ++ [.scanlineReq (ctxView t s)], answers := rest,
        buf := s'.buf, xfer := s'.xfer, serial := s'.serial } ∧
      (∀ x : Nat, (∀ (ad : Addr) (v : Byte), .write ad v ∈ a.acts → ad.toNat ≠ x) → readByte s'.buf x = readByte s.buf x) ∧
      (∀ (pre post : List CallAct) (ad : Addr) (v : Byte), a.acts = pre ++ .write ad v :: post →
        (∀ u, .write ad u ∉ post) → readByte s'.buf ad.toNat = v) ∧
      (.xfer ∉ a.acts → s'.xfer = s.xfer ∧ s'.serial = s.serial) ∧
      (s.xfer = none → s'.xfer = none ∧ s'.serial = s.serial) ∧
      (∀ b, s.xfer = some b → b.done < b.len.toNat → b.addr.toNat + b.len.toNat ≤ 2 ^ Config.addrW →
        s'.xfer = (if b.done + a.acts.count .xfer < b.len.toNat then some { b with done := b.done + a.acts.count .xfer }
          else none) ∧
        s'.serial = s.serial ++ (List.range' b.done (min (a.acts.count .xfer) (b.len.toNat - b.done))).map fun k =>
          (b.pclk, readByte s.buf (b.addr.toNat + k)))

/-- R202: with no answer queued PRODUCE latches a free value, about which nothing is known, and the next draw is another
one; no byte of BUF changes (log 5). -/
def Obligations.ProduceDrawsAFreeAnswer : Prop :=
  ∀ (s : State) (t : PulseTable), s.table? = some t → s.answers = [] →
    exec .produce s = .next
      { s with
        slHstart := (Config.onScanline s.draws).hstart, slLen := (Config.onScanline s.draws).len,
        slData := (Config.onScanline s.draws).data, slPclk := (Config.onScanline s.draws).pclk,
        events := s.events ++ [.scanlineReq (ctxView t s)], draws := s.draws + 1 }

/-- R70: a store of PRODUCER after `k` reads of XFER is a race exactly when it goes to a byte of the borrow that XFER has
not read by then; after the read of the last byte no store is one. -/
def Obligations.RaceIsAStoreToAnUnreadByte : Prop :=
  ∀ (s : State) (t : PulseTable) (b : Borrow) (k : Nat) (ad : Addr) (v : Byte) (vals : Scanline),
    s.table? = some t → s.xfer = some b →
    s.answers = [{ acts := List.replicate k .xfer ++ [.write ad v], scanline := vals }] →
    ((exec .produce s = .fault .bufferRace) ↔
      (b.addr.toNat + b.done + k ≤ ad.toNat ∧ ad.toNat < b.addr.toNat + b.len.toNat))

/-- R209: VBLANK emits the signal with the context and changes no state of the block. -/
def Obligations.VblankOnlySignals : Prop :=
  ∀ (s : State) (t : PulseTable), s.table? = some t →
    exec .vblank s = .next { s with events := s.events ++ [.vblank (ctxView t s)] }

/-- R180, R181: REPROG writes the three shadow registers from CPULSE, the table and SL_HSTART, the offset always with
`T.sync_normal` and modulo `2^TICK_W`, and emits them. -/
def Obligations.ReprogLoadsTheShadows : Prop :=
  ∀ (s : State) (t : PulseTable), s.table? = some t →
    let p : Tick := if s.cpulse.getLsbD 0 then t.horizontalPeriod >>> 1 else t.horizontalPeriod
    let w : Tick := if s.cpulse.getLsbD 1 then t.syncShort else if s.cpulse.getLsbD 2 then t.syncLong else t.syncNormal
    exec .reprog s = .next
      { s with periodSh := p, syncwSh := w, trigofsSh := s.slHstart + t.syncNormal,
               events := s.events ++ [.reprog p w (s.slHstart + t.syncNormal)] }

/-- R226: DIAG overwrites the one counter of the class of the line prepared with a drawn value, and leaves the other. The
value drawn is free: the opaque constant of the configuration at the count of draws (log 4). -/
def Obligations.DiagRecordsOneClass : Prop :=
  ∀ s : State,
    (s.cpulse.getLsbD 3 = true →
      exec .diag s = .next { s with diagActive := Config.elapsed s.draws, draws := s.draws + 1 }) ∧
    (s.cpulse.getLsbD 3 = false →
      exec .diag s = .next { s with diagBlank := Config.elapsed s.draws, draws := s.draws + 1 })

/-- R170, R177: while RUN and IRQ_EN are 1, no boundary is pending and no borrow is present, TICK is BOUNDARY, ARB, STEP,
then PRODUCE if the new line is active, VBLANK if it is not and LINE is 0, and neither otherwise, then REPROG and DIAG. With
the boundary's event pending, the boundary has happened and TICK begins with its clearing (R41, R245; log 13). Between two
parts XFER takes as many steps as the queue says (R68; log 22), none with the queue empty. -/
def Obligations.TickRunsItsPartsInOrder : Prop :=
  ∀ s : State, s.run = true → s.irqEn = true →
    let body (gap : State → State) (r : Result) : Result :=
      andThen r fun s0 => andThen (exec .arb s0) fun s1 => andThen (exec .step (gap s1)) fun s2 =>
        andThen (if (gap s2).cpulse.getLsbD 3 then exec .produce (gap s2)
          else if (gap s2).line = 0 then exec .vblank (gap s2) else .next (gap s2)) fun s3 =>
        andThen (exec .reprog (gap s3)) fun s4 => exec .diag (gap s4)
    (s.tickPending = false → s.xfer = none → exec .tick s = body xferMeanwhile (exec .boundary s)) ∧
    (s.tickPending = true → exec .tick s = body xferMeanwhile (.next { s with tickPending := false })) ∧
    (s.tickPending = false → s.xfer = none → s.overlap = [] → exec .tick s = body id (exec .boundary s))

/-- R184: a line-rate event while RUN or IRQ_EN is 0 starts no service and changes no state. -/
def Obligations.TickIgnoredWhileStopped : Prop :=
  ∀ s : State, (s.run = false ∨ s.irqEn = false) → exec .tick s = .next s

/-- R170, R145: on a running, consistent block with no transfer in flight (TransferFits, R69, R283), whose latch can be armed
and whose PRODUCER stays clear of the buffer being armed, TICK goes through. The context is then what STEP makes of it, the
shadow registers hold the new line's timing, the active registers what the shadows held, TRIG_EN the flag `active` of the
line beginning, and nothing is pending. Where the event was pending the boundary has happened, and the active registers stay
(log 13). -/
def Obligations.TickCompletesOneService : Prop :=
  ∀ (s : State) (t : PulseTable), s.consistent = true → s.run = true → transferFits s = true → s.table? = some t →
    (s.isActive = true → latchFits s = true) →
    s.nextAnswer.acts.all (avoids (if s.isActive then borrowOf s.slData s.slLen s.slPclk else none)) = true →
    ∃ s1 s', exec .step s = .next s1 ∧ exec .tick s = .next s' ∧
      s'.pidx = s1.pidx ∧ s'.pcnt = s1.pcnt ∧ s'.cpulse = s1.cpulse ∧ s'.line = s1.line ∧
      (s.tickPending = false →
        s'.periodAct = s.periodSh ∧ s'.syncwAct = s.syncwSh ∧ s'.trigofsAct = s.trigofsSh ∧ s'.tcnt = 0) ∧
      (s.tickPending = true →
        s'.periodAct = s.periodAct ∧ s'.syncwAct = s.syncwAct ∧ s'.trigofsAct = s.trigofsAct ∧ s'.tcnt = s.tcnt) ∧
      s'.periodSh = hperOf t s1.cpulse ∧ s'.syncwSh = syncwOf t s1.cpulse ∧ s'.trigofsSh = s'.slHstart + t.syncNormal ∧
      s'.trigEn = s.isActive ∧ s'.tickPending = false ∧ s'.contextFits = true

/-- R185: a service emits exactly one of ARM and DISARM, then at most one of SCANLINE_REQ and VBLANK, by the line prepared,
then exactly one REPROG, in that order. TransferFits (R69) is a premise. -/
def Obligations.ServiceEmitsItsEventsInOrder : Prop :=
  ∀ (s s' : State) (t : PulseTable), s.run = true → s.irqEn = true → transferFits s = true → s.table? = some t →
    exec .tick s = .next s' →
    s'.events = s.events ++
      [if s.isActive then .arm s.slData s.slLen s.slPclk else .disarm] ++
      (if s'.isActive then [.scanlineReq (ctxView t s')] else if s'.line = 0 then [.vblank (ctxView t s')] else []) ++
      [.reprog s'.periodSh s'.syncwSh s'.trigofsSh]

/-- R185: what a service leaves: CTRL, the configuration, the inputs from outside and the replies are unchanged; the latch
changes only if the line prepared is active; DMA_* only if the line beginning is active; one diagnostic counter is kept.
TransferFits (R69) is a premise. -/
def Obligations.ServiceChangesOnlyItsRegisters : Prop :=
  ∀ s s' : State, transferFits s = true → exec .tick s = .next s' →
    s'.ctrl = s.ctrl ∧ s'.cfg = s.cfg ∧ s'.inbox = s.inbox ∧ s'.replies = s.replies ∧
    (s'.isActive = false → s'.slHstart = s.slHstart ∧ s'.slLen = s.slLen ∧ s'.slData = s.slData ∧ s'.slPclk = s.slPclk ∧
      s'.answers = s.answers ∧ (∀ x, readByte s'.buf x = readByte s.buf x)) ∧
    (s.isActive = false → s'.dmaAddr = s.dmaAddr ∧ s'.dmaLen = s.dmaLen ∧ s'.dmaPclk = s.dmaPclk) ∧
    (s'.isActive = true → s'.diagBlank = s.diagBlank) ∧ (s'.isActive = false → s'.diagActive = s.diagActive)

/-- R75: the three values REPROG writes in one service are those of the period that begins at the next boundary, all three
together, and the period of the service itself keeps the values of the service before. Between the services XFER takes any
number of steps, and has finished at the second boundary, as at the first (TransferFits, R69). -/
def Obligations.ShadowsGovernTheNextPeriod : Prop :=
  ∀ (s s1 s2 : State) (k : Nat), s.run = true → s.irqEn = true → transferFits s = true → exec .tick s = .next s1 →
    transferFits (xferSteps k s1) = true → exec .tick (xferSteps k s1) = .next s2 →
    s2.periodAct = s1.periodSh ∧ s2.syncwAct = s1.syncwSh ∧ s2.trigofsAct = s1.trigofsSh ∧
    (s.tickPending = false → s1.periodAct = s.periodSh ∧ s1.syncwAct = s.syncwSh ∧ s1.trigofsAct = s.trigofsSh)

/-- R173: when a service prepares an active line, the next service arms it with the address, length and pixel clock of the
one answer PRODUCER gave for it, at the trigger offset of that same answer. Between the services XFER takes any number of
steps, and has finished at the second boundary, as at the first (TransferFits, R69). -/
def Obligations.OneAnswerGovernsOneLine : Prop :=
  ∀ (s s1 s2 : State) (t : PulseTable) (a : Answer) (rest : List Answer) (k : Nat), s.run = true → s.irqEn = true →
    transferFits s = true → s.table? = some t → s.answers = a :: rest → exec .tick s = .next s1 → s1.isActive = true →
    transferFits (xferSteps k s1) = true → exec .tick (xferSteps k s1) = .next s2 →
    s2.dmaAddr = a.scanline.data ∧ s2.dmaLen = a.scanline.len ∧ s2.dmaPclk = a.scanline.pclk ∧ s2.trigEn = true ∧
    s2.trigofsAct = a.scanline.hstart + t.syncNormal

/-- R210: away from LINE's last value, a service signals VBLANK exactly when its STEP crossed an edge from active to blank.
TransferFits (R69) is a premise. -/
def Obligations.VblankExactlyAtActiveToBlankEdges : Prop :=
  ∀ s s' : State, s.run = true → s.irqEn = true → transferFits s = true → s.line.toNat + 1 < 2 ^ Config.lineW → exec .tick s = .next s' →
    ((∃ c, .vblank c ∈ s'.events.drop s.events.length) ↔ (s.isActive = true ∧ s'.isActive = false))

/-! ### Host operations -/

/-- R220, R43: INIT of a valid table on a stopped block constructs the context on its first descriptor, loads both halves
of the output registers with that descriptor's timing, clears everything else, and sets RUN and IRQ_EN. LINE and the output
registers at INIT are decisions the rule marks as the spec's own. That the histories, the inputs and the count of draws stay
is the model's choice (log 19). -/
def Obligations.InitConstructsTheContext : Prop :=
  ∀ (s : State) (std : Std) (t : PulseTable) (w : DescWord), s.run = false → s.cfg.table std = some t → t.valid = true →
    t.desc.head? = some w →
    let p : Tick := if w.getLsbD 0 then t.horizontalPeriod >>> 1 else t.horizontalPeriod
    let sw : Tick := if w.getLsbD 1 then t.syncShort else if w.getLsbD 2 then t.syncLong else t.syncNormal
    exec (.init std) s = .next
      { s with
        ctrl := std ++ 1#1 ++ 1#1, pidx := 0, pcnt := w.extractLsb' 8 8, cpulse := w, line := 0,
        periodSh := p, periodAct := p, syncwSh := sw, syncwAct := sw, trigofsSh := t.syncNormal, trigofsAct := t.syncNormal,
        trigEn := false, dmaAddr := 0, dmaLen := 0, dmaPclk := 0, slHstart := 0, slLen := 0, slData := 0, slPclk := 0,
        diagActive := 0, diagBlank := 0, xfer := none, tickPending := false, tcnt := 0 }

/-- R220, R221, R124: INIT's three refusals, in their order. Which failing check an invalid table is refused for is the
model's choice (log 14). R241: no step from a consistent state is refused for any other reason than those of the closed list:
on a stopped block the two that INIT gives there, on a running one INIT's third and the two of an ARM. -/
def Obligations.RefusalsComeInOrderFromAClosedList : Prop :=
  (∀ (s : State) (std : Std),
    (s.run = true → exec (.init std) s = .refused .initWhileRunning) ∧
    (s.run = false → std = 3 → exec (.init std) s = .refused .badStandard) ∧
    (s.run = false → ∀ t, s.cfg.table std = some t → t.valid = false →
      ∃ c, t.passes c = false ∧ exec (.init std) s = .refused (.invalidTable std c))) ∧
  (∀ (s : State) (c : Refusal), s.consistent = true → step s = .refused c →
    (s.run = false ∧ (c = .badStandard ∨ ∃ std check, c = .invalidTable std check)) ∨
    (s.run = true ∧ (c = .initWhileRunning ∨ c = .badPixelClock ∨ c = .bufferWraps)))

/-- R222, R223: TEARDOWN of a running block puts every register at its power-on value and drops the borrow; BUF and the
configuration stay. On a stopped block it does nothing. That the histories and the inputs stay is the model's choice
(log 19). -/
def Obligations.TeardownReturnsToReset : Prop :=
  ∀ s : State,
    (s.run = true → exec .teardown s = .next
      { State.reset with
        buf := s.buf, cfg := s.cfg, events := s.events, replies := s.replies, serial := s.serial, inbox := s.inbox,
        answers := s.answers, overlap := s.overlap, draws := s.draws }) ∧
    (s.run = false → exec .teardown s = .next s)

/-- R223 (c): INIT after TEARDOWN behaves exactly as the first INIT: it is refused where that is, and where it goes through
every register is as INIT leaves it from the power-on state. That the histories and the inputs stay is the model's choice
(log 19). -/
def Obligations.InitAfterTeardownIsAsTheFirst : Prop :=
  ∀ (s s1 : State) (std : Std), s.run = true → exec .teardown s = .next s1 →
    exec (.init std) s1 =
      mapNext (fun u =>
        { u with
          buf := s.buf, events := s.events, replies := s.replies, serial := s.serial, inbox := s.inbox,
          answers := s.answers, overlap := s.overlap, draws := s.draws })
        (exec (.init std) { State.reset with cfg := s.cfg })

/-- R36, R224: while RUN is 1 RDREG returns the numbered register, zero-extended to 32 bits, and 0 for an unlisted number;
while RUN is 0 it returns 0 for every number. It changes no state of the block. The 8-bit operand is log 9. -/
def Obligations.RdregReturnsTheNumberedRegister : Prop :=
  ∀ (s : State) (n : Byte),
    let answers (v : BitVec 32) : Prop := exec (.rdreg n) s = .next { s with replies := s.replies ++ [.reg v] }
    (s.run = false → answers 0) ∧
    (s.run = true → ∀ t, s.table? = some t →
      match n.toNat with
      | 0 => answers (s.ctrl.setWidth 32)
      | 1 => answers (s.pidx.setWidth 32)
      | 2 => answers (s.pcnt.setWidth 32)
      | 3 => answers (s.cpulse.setWidth 32)
      | 4 => answers (s.line.setWidth 32)
      | 5 => answers (t.horizontalPeriod.setWidth 32)
      | 6 => answers (t.syncShort.setWidth 32)
      | 7 => answers (t.syncNormal.setWidth 32)
      | 8 => answers (t.syncLong.setWidth 32)
      | 9 => answers (s.periodSh.setWidth 32)
      | 10 => answers (s.periodAct.setWidth 32)
      | 11 => answers (s.syncwSh.setWidth 32)
      | 12 => answers (s.syncwAct.setWidth 32)
      | 13 => answers (s.trigofsSh.setWidth 32)
      | 14 => answers (s.trigofsAct.setWidth 32)
      | 15 => answers (if s.trigEn then 1 else 0)
      | 16 => answers (s.dmaAddr.setWidth 32)
      | 17 => answers (s.dmaLen.setWidth 32)
      | 18 => answers (s.dmaPclk.setWidth 32)
      | 19 => answers (s.slHstart.setWidth 32)
      | 20 => answers (s.slLen.setWidth 32)
      | 21 => answers (s.slData.setWidth 32)
      | 22 => answers (s.slPclk.setWidth 32)
      | 23 => answers (s.diagActive.setWidth 32)
      | 24 => answers (s.diagBlank.setWidth 32)
      | _ => answers 0)

/-- R225: RDDIAG returns both counters together, and neither clears them nor changes anything else of the block. -/
def Obligations.RddiagReturnsBothCounters : Prop :=
  ∀ s : State, exec .rddiag s = .next { s with replies := s.replies ++ [.diag s.diagActive s.diagBlank] }

/-- R101: the reserved id changes no state and returns nothing, and so does, on HOST's command port, every id that is no
HOST command, whatever the other bits of the word. That a command is a 16-bit word with its id in bits 3:0 is the model's
choice (log 9). -/
def Obligations.OtherCommandsAreIgnored : Prop :=
  ∀ (s : State) (w : OpWord) (rest : List Stimulus),
    exec .reserved s = .next s ∧
    (s.inbox = .command w :: rest → (w.extractLsb' 0 4 = 0#4 ∨ 5#4 ≤ w.extractLsb' 0 4) →
      step s = .next { s with inbox := rest })

/-! ### TIMER, XFER and the reset input -/

/-- R41, R171, R263, R290: a period boundary of a running block activates the shadow registers and leaves one event
pending; a second boundary before the service is the fault DeadlineOverrun. -/
def Obligations.SecondBoundaryIsAnOverrun : Prop :=
  ∀ (s : State) (rest : List Stimulus), s.run = true → s.irqEn = true → s.inbox = .lineRate :: rest →
    (s.tickPending = false → s.xfer = none → step s = .next
      { s with inbox := rest, periodAct := s.periodSh, syncwAct := s.syncwSh, trigofsAct := s.trigofsSh, tcnt := 0,
               tickPending := true }) ∧
    (s.tickPending = true → step s = .fault .deadlineOverrun)

/-- R263: from a boundary on, the next boundary comes at exactly the PERIOD_ACT-th tick of the clock: after fewer ticks
only TCNT has changed, and it is their number. Among them the trigger to XFER fires at exactly the TRIGOFS_ACT-th if TRIG_EN
is 1 (R32, R33), and at none if it is 0. -/
def Obligations.PeriodLastsPeriodActTicks : Prop :=
  ∀ (s : State) (k : Nat) (rest : List Stimulus), s.run = true → s.irqEn = true → s.tickPending = false → s.xfer = none →
    s.tcnt = 0 → s.inbox = List.replicate k .clk ++ rest →
    (k < s.periodAct.toNat →
      ∃ u, stepTimes k s = .next u ∧ u = { s with inbox := rest, tcnt := BitVec.ofNat Config.tickW k } ∧
        (triggerFires u = true ↔ s.trigEn = true ∧ k = s.trigofsAct.toNat)) ∧
    (k = s.periodAct.toNat → 0 < k → stepTimes k s = .next
      { s with inbox := rest, periodAct := s.periodSh, syncwAct := s.syncwSh, trigofsAct := s.trigofsSh, tcnt := 0,
               tickPending := true })

/-- R264: the sync output is asserted from the boundary for SYNCW_ACT ticks and released for the rest of the period. With a
service pending the clock runs up to the trigger offset, which ARB must not miss (R292, log 18). -/
def Obligations.SyncPulseLastsSyncwActTicks : Prop :=
  ∀ (s : State) (k : Nat) (rest : List Stimulus), s.run = true → s.tcnt = 0 → s.syncwAct < s.periodAct →
    k < s.periodAct.toNat → (s.tickPending = false ∨ k < s.trigofsAct.toNat) → s.inbox = List.replicate k .clk ++ rest →
    ∃ s', stepTimes k s = .next s' ∧ syncAsserted? s' = some (decide (k < s.syncwAct.toNat))

/-- R67: a step of XFER sends the next byte of its borrow, which ends with its last byte; without a borrow nothing happens. -/
def Obligations.XferSendsTheNextByte : Prop :=
  ∀ (s : State) (rest : List Stimulus), s.inbox = .xfer :: rest →
    (s.xfer = none → step s = .next { s with inbox := rest }) ∧
    (∀ b, s.xfer = some b → b.done < b.len.toNat → step s = .next
      { s with
        inbox := rest,
        serial := s.serial ++ [(b.pclk, readByte s.buf ((b.addr.toNat + b.done) % 2 ^ Config.addrW))],
        xfer := if b.done + 1 = b.len.toNat then none else some { b with done := b.done + 1 } })

/-- R280: the reset input puts every register at its power-on value, with no borrow and TIMER stopped, whether the block
was running or not. That the histories, the inputs and the count of draws stay is the model's choice (log 19). -/
def Obligations.ResetInputClearsEveryRegister : Prop :=
  ∀ (s : State) (rest : List Stimulus), s.inbox = .rst :: rest →
    step s = .next
      { State.reset with
        inbox := rest, buf := s.buf, cfg := s.cfg, events := s.events, replies := s.replies, serial := s.serial,
        answers := s.answers, overlap := s.overlap, draws := s.draws }

/-! ### The whole machine -/

/-- The reset state is consistent (R43, R280). -/
def Obligations.ResetStateIsConsistent : Prop := State.reset.consistent = true

/-- R21 to R23, R43, R66, R145, R280: every step of the machine from a consistent state leaves a consistent one: BUF
canonical, a borrow as an ARM leaves it, no borrow and the count in time for ARB while an event is pending (R69, R292; log 12,
log 18), the context on a valid table while RUN is 1, and every register at its power-on value while RUN is 0. -/
def Obligations.EveryStepKeepsConsistency : Prop :=
  ∀ s s' : State, s.consistent = true → step s = .next s' → s'.consistent = true

/-- R60, R78: no step writes the tables or their constants. -/
def Obligations.TablesAreNeverWritten : Prop := ∀ s s' : State, step s = .next s' → s'.cfg = s.cfg

/-- R61, R258: no instruction but PRODUCE and the TICK that runs it changes a byte of BUF, and these change none that
PRODUCER does not store to in the call. -/
def Obligations.OnlyProducerWritesBuf : Prop :=
  ∀ (i : Instr) (s s' : State), exec i s = .next s' →
    (i ≠ .produce → i ≠ .tick → ∀ x, readByte s'.buf x = readByte s.buf x) ∧
    (s.buf.wf = true → ∀ x, (∀ (ad : Addr) (v : Byte), .write ad v ∈ s.nextAnswer.acts → ad.toNat ≠ x) →
      readByte s'.buf x = readByte s.buf x)

/-- R35, R226: the diagnostic counters play no role in any operation: apart from what RDDIAG and RDREG of the two counters
return, no instruction does anything else for other values of them. -/
def Obligations.DiagnosticsHaveNoInfluence : Prop :=
  ∀ (i : Instr) (s : State) (a b : Diag), i ≠ .rddiag → i ≠ .rdreg 23 → i ≠ .rdreg 24 →
    mapNext hideDiagnostics (exec i { s with diagActive := a, diagBlank := b }) = mapNext hideDiagnostics (exec i s)

/-- R6, R38: the block never interprets pixel bytes: whatever BUF holds, every instruction does the same apart from BUF
itself and the bytes XFER sends. -/
def Obligations.PixelBytesHaveNoInfluence : Prop :=
  ∀ (i : Instr) (s : State) (m : Memory),
    mapNext hidePixels (exec i { s with buf := m }) = mapNext hidePixels (exec i s)
end

