-- ==== Sys2Proof/Laws/Decode.lean ====
section
/-! SUPPORT. The fields of an assembled descriptor word, and of an assembled operation word. -/

namespace Sys2Proof

variable (h sh l a : Bool) (r : BitVec 4) (n : Duration) (f : Byte)

theorem getLsbD_descOfFlags (i : Nat) :
    (descOfFlags n f).getLsbD i = if i < 8 then f.getLsbD i else n.getLsbD (i - 8) :=
  BitVec.getLsbD_append

theorem getLsbD_opWord (k : BitVec 4) (b : Byte) (i : Nat) :
    (opWord k b).getLsbD i =
      if i < 8 then BitVec.getLsbD (w := 8) (0#4 ++ k) i else b.getLsbD (i - 8) :=
  BitVec.getLsbD_append

@[simp] theorem descDuration_descOfFlags : descDuration (descOfFlags n f) = n := by
  apply BitVec.eq_of_getLsbD_eq
  intro i hi
  simp [descDuration, getLsbD_descOfFlags, hi]

@[simp] theorem descFlags_descOfFlags : descFlags (descOfFlags n f) = f := by
  apply BitVec.eq_of_getLsbD_eq
  intro i hi
  simp [descFlags, getLsbD_descOfFlags, hi]

@[simp] theorem descHalf_descOfFlags : descHalf (descOfFlags n f) = f[0] :=
  getLsbD_descOfFlags n f 0

@[simp] theorem descShort_descOfFlags : descShort (descOfFlags n f) = f[1] :=
  getLsbD_descOfFlags n f 1

@[simp] theorem descLong_descOfFlags : descLong (descOfFlags n f) = f[2] :=
  getLsbD_descOfFlags n f 2

@[simp] theorem descActive_descOfFlags : descActive (descOfFlags n f) = f[3] :=
  getLsbD_descOfFlags n f 3

@[simp] theorem descRsv_descOfFlags : descRsv (descOfFlags n f) = f.extractLsb' 4 4 := by
  apply BitVec.eq_of_getLsbD_eq
  intro i hi
  simp [descRsv, getLsbD_descOfFlags, show 4 + i < 8 by omega]

/-- Every word is its duration and its low byte. -/
theorem descOfFlags_fields (w : DescWord) : descOfFlags (descDuration w) (descFlags w) = w := by
  apply BitVec.eq_of_getLsbD_eq
  intro i hi
  have hi : i < 16 := hi
  rw [getLsbD_descOfFlags]
  by_cases h8 : i < 8
  · simp [descFlags, h8]
  · have hd : i - 8 < Config.durW := by show i - 8 < 8; omega
    simp [descDuration, h8, hd, show 8 + (i - 8) = i by omega]

@[simp] theorem flagsByte_bit0 : (flagsByte h sh l a r)[0] = h := by revert h sh l a r; decide
@[simp] theorem flagsByte_bit1 : (flagsByte h sh l a r)[1] = sh := by revert h sh l a r; decide
@[simp] theorem flagsByte_bit2 : (flagsByte h sh l a r)[2] = l := by revert h sh l a r; decide
@[simp] theorem flagsByte_bit3 : (flagsByte h sh l a r)[3] = a := by revert h sh l a r; decide
@[simp] theorem flagsByte_rsv : (flagsByte h sh l a r).extractLsb' 4 4 = r := by revert h sh l a r; decide

@[simp] theorem descDuration_descWord : descDuration (descWord h sh l a r n) = n := by simp [descWord]
@[simp] theorem descFlags_descWord : descFlags (descWord h sh l a r n) = flagsByte h sh l a r := by simp [descWord]
@[simp] theorem descHalf_descWord : descHalf (descWord h sh l a r n) = h := by simp [descWord]
@[simp] theorem descShort_descWord : descShort (descWord h sh l a r n) = sh := by simp [descWord]
@[simp] theorem descLong_descWord : descLong (descWord h sh l a r n) = l := by simp [descWord]
@[simp] theorem descActive_descWord : descActive (descWord h sh l a r n) = a := by simp [descWord]
@[simp] theorem descRsv_descWord : descRsv (descWord h sh l a r n) = r := by simp [descWord]

@[simp] theorem opArg_opWord (k : BitVec 4) (b : Byte) : opArg (opWord k b) = b := by
  apply BitVec.eq_of_getLsbD_eq
  intro i hi
  simp [opArg, getLsbD_opWord, hi]

@[simp] theorem opId_opWord (k : BitVec 4) (b : Byte) : opId (opWord k b) = k := by
  have hk : ∀ (k : BitVec 4) (i : Nat), i < 4 → BitVec.getLsbD (w := 8) (0#4 ++ k) i = k.getLsbD i := by decide
  apply BitVec.eq_of_getLsbD_eq
  intro i hi
  have hw := getLsbD_opWord k b i
  rw [if_pos (show i < 8 by omega), hk k i hi] at hw
  simpa [opId, hi] using hw

@[simp] theorem opHigh_opWord (k : BitVec 4) (b : Byte) : (opWord k b).extractLsb' 4 4 = 0#4 := by
  have hk : ∀ (k : BitVec 4) (i : Nat), i < 4 → BitVec.getLsbD (w := 8) (0#4 ++ k) (4 + i) = false := by decide
  apply BitVec.eq_of_getLsbD_eq
  intro i hi
  have hw := getLsbD_opWord k b (4 + i)
  rw [if_pos (show 4 + i < 8 by omega), hk k i hi] at hw
  simpa [hi] using hw

end Sys2Proof
end

