-- ==== Sys2Proof/Laws/Memory.lean ====
section
/-! SUPPORT. The laws of BUF: read after write, and every write keeps the canonical form. -/

namespace Sys2Proof.Machine

@[simp] theorem readByte_nil (a : Nat) : readByte [] a = unlistedByte := rfl

theorem canonicalFrom_le {lo lo' : Nat} {m : Memory} (h : lo' ≤ lo) (hm : canonicalFrom lo m = true) :
    canonicalFrom lo' m = true := by
  cases m with
  | nil => rfl
  | cons c m =>
    simp only [canonicalFrom, Bool.and_eq_true, decide_eq_true_eq] at hm ⊢
    exact ⟨⟨⟨by omega, hm.1.1.2⟩, hm.1.2⟩, hm.2⟩

/-- Below its first address a canonical memory reads as unlisted. -/
theorem readByte_below {lo a : Nat} {m : Memory} (hm : canonicalFrom lo m = true) (h : a < lo) :
    readByte m a = unlistedByte := by
  induction m generalizing lo with
  | nil => rfl
  | cons c m ih =>
    simp only [canonicalFrom, Bool.and_eq_true, decide_eq_true_eq] at hm
    have hne : c.1 ≠ a := by omega
    simp only [readByte, if_neg hne]
    exact ih hm.2 (by omega)

theorem readByte_consCell (a : Nat) (v : Byte) (m : Memory) (b : Nat) (h : readByte m a = unlistedByte) :
    readByte (consCell a v m) b = if a = b then v else readByte m b := by
  unfold consCell
  split
  · rename_i hv
    split
    · rename_i hab
      rw [← hab, h, hv]
    · rfl
  · rfl

/-- Reading after a write: the byte written at its address, and what was there before everywhere else. -/
theorem readByte_writeByte {lo : Nat} {m : Memory} (hm : canonicalFrom lo m = true) (a : Nat) (v : Byte) (b : Nat) :
    readByte (writeByte m a v) b = if a = b then v else readByte m b := by
  induction m generalizing lo with
  | nil => exact readByte_consCell a v [] b rfl
  | cons c m ih =>
    obtain ⟨k, w⟩ := c
    have hc := hm
    simp only [canonicalFrom, Bool.and_eq_true, decide_eq_true_eq] at hc
    simp only [writeByte]
    split
    · rename_i hak
      refine readByte_consCell a v ((k, w) :: m) b ?_
      simp only [readByte, if_neg (show k ≠ a by omega)]
      exact readByte_below hc.2 (by omega)
    · split
      · rename_i hak
        rw [readByte_consCell a v m b (readByte_below hc.2 (by omega))]
        by_cases hab : a = b
        · simp [hab]
        · simp [readByte, hab, show k ≠ b by omega]
      · simp only [readByte, ih hc.2]
        by_cases hkb : k = b
        · simp [hkb, show a ≠ b by omega]
        · simp [hkb]

theorem canonicalFrom_consCell {lo a : Nat} {v : Byte} {m : Memory} (hlo : lo ≤ a) (ha : a < 2 ^ Config.addrW)
    (hm : canonicalFrom (a + 1) m = true) : canonicalFrom lo (consCell a v m) = true := by
  unfold consCell
  split
  · exact canonicalFrom_le (by omega) hm
  · rename_i hv
    simp only [canonicalFrom, Bool.and_eq_true, decide_eq_true_eq]
    exact ⟨⟨⟨hlo, ha⟩, by simpa using hv⟩, hm⟩

theorem canonicalFrom_writeByte {lo : Nat} {m : Memory} {a : Nat} (hm : canonicalFrom lo m = true) (hlo : lo ≤ a)
    (ha : a < 2 ^ Config.addrW) (v : Byte) : canonicalFrom lo (writeByte m a v) = true := by
  induction m generalizing lo with
  | nil => exact canonicalFrom_consCell hlo ha rfl
  | cons c m ih =>
    obtain ⟨k, w⟩ := c
    have hc := hm
    simp only [canonicalFrom, Bool.and_eq_true, decide_eq_true_eq] at hc
    simp only [writeByte]
    split
    · refine canonicalFrom_consCell hlo ha ?_
      simp only [canonicalFrom, Bool.and_eq_true, decide_eq_true_eq]
      exact ⟨⟨⟨by omega, hc.1.1.2⟩, hc.1.2⟩, hc.2⟩
    · split
      · rename_i hak
        exact canonicalFrom_consCell hlo ha (hak ▸ hc.2)
      · simp only [canonicalFrom, Bool.and_eq_true, decide_eq_true_eq]
        exact ⟨⟨⟨by omega, hc.1.1.2⟩, hc.1.2⟩, ih hc.2 (by omega)⟩

/-- A write inside the address space keeps the canonical form. -/
theorem Memory.wf_writeByte {m : Memory} (hm : m.wf = true) {a : Nat} (ha : a < 2 ^ Config.addrW) (v : Byte) :
    Memory.wf (writeByte m a v) = true :=
  canonicalFrom_writeByte hm (Nat.zero_le a) ha v

/-- The empty memory, which the reset state has, is canonical. -/
theorem Memory.wf_nil : Memory.wf [] = true := rfl

end Sys2Proof.Machine
end

