-- ==== Sys2Proof/Laws/State.lean ====
section
/-! SUPPORT. What each named update of the state leaves in each field, true by definition. -/

namespace Sys2Proof.Machine

variable (s : State)

/-! ### emit -/

@[simp] theorem State.emit_ctrl (e : Event) : (s.emit e).ctrl = s.ctrl := rfl
@[simp] theorem State.emit_pidx (e : Event) : (s.emit e).pidx = s.pidx := rfl
@[simp] theorem State.emit_pcnt (e : Event) : (s.emit e).pcnt = s.pcnt := rfl
@[simp] theorem State.emit_cpulse (e : Event) : (s.emit e).cpulse = s.cpulse := rfl
@[simp] theorem State.emit_line (e : Event) : (s.emit e).line = s.line := rfl
@[simp] theorem State.emit_periodSh (e : Event) : (s.emit e).periodSh = s.periodSh := rfl
@[simp] theorem State.emit_periodAct (e : Event) : (s.emit e).periodAct = s.periodAct := rfl
@[simp] theorem State.emit_syncwSh (e : Event) : (s.emit e).syncwSh = s.syncwSh := rfl
@[simp] theorem State.emit_syncwAct (e : Event) : (s.emit e).syncwAct = s.syncwAct := rfl
@[simp] theorem State.emit_trigofsSh (e : Event) : (s.emit e).trigofsSh = s.trigofsSh := rfl
@[simp] theorem State.emit_trigofsAct (e : Event) : (s.emit e).trigofsAct = s.trigofsAct := rfl
@[simp] theorem State.emit_trigEn (e : Event) : (s.emit e).trigEn = s.trigEn := rfl
@[simp] theorem State.emit_dmaAddr (e : Event) : (s.emit e).dmaAddr = s.dmaAddr := rfl
@[simp] theorem State.emit_dmaLen (e : Event) : (s.emit e).dmaLen = s.dmaLen := rfl
@[simp] theorem State.emit_dmaPclk (e : Event) : (s.emit e).dmaPclk = s.dmaPclk := rfl
@[simp] theorem State.emit_slHstart (e : Event) : (s.emit e).slHstart = s.slHstart := rfl
@[simp] theorem State.emit_slLen (e : Event) : (s.emit e).slLen = s.slLen := rfl
@[simp] theorem State.emit_slData (e : Event) : (s.emit e).slData = s.slData := rfl
@[simp] theorem State.emit_slPclk (e : Event) : (s.emit e).slPclk = s.slPclk := rfl
@[simp] theorem State.emit_diagActive (e : Event) : (s.emit e).diagActive = s.diagActive := rfl
@[simp] theorem State.emit_diagBlank (e : Event) : (s.emit e).diagBlank = s.diagBlank := rfl
@[simp] theorem State.emit_xfer (e : Event) : (s.emit e).xfer = s.xfer := rfl
@[simp] theorem State.emit_tickPending (e : Event) : (s.emit e).tickPending = s.tickPending := rfl
@[simp] theorem State.emit_tcnt (e : Event) : (s.emit e).tcnt = s.tcnt := rfl
@[simp] theorem State.emit_buf (e : Event) : (s.emit e).buf = s.buf := rfl
@[simp] theorem State.emit_events (e : Event) : (s.emit e).events = s.events ++ [e] := rfl
@[simp] theorem State.emit_cfg (e : Event) : (s.emit e).cfg = s.cfg := rfl
@[simp] theorem State.emit_inbox (e : Event) : (s.emit e).inbox = s.inbox := rfl
@[simp] theorem State.emit_answers (e : Event) : (s.emit e).answers = s.answers := rfl
@[simp] theorem State.emit_overlap (e : Event) : (s.emit e).overlap = s.overlap := rfl
@[simp] theorem State.emit_draws (e : Event) : (s.emit e).draws = s.draws := rfl
@[simp] theorem State.emit_replies (e : Event) : (s.emit e).replies = s.replies := rfl
@[simp] theorem State.emit_serial (e : Event) : (s.emit e).serial = s.serial := rfl

/-! ### tell -/

@[simp] theorem State.tell_ctrl (r : Reply) : (s.tell r).ctrl = s.ctrl := rfl
@[simp] theorem State.tell_pidx (r : Reply) : (s.tell r).pidx = s.pidx := rfl
@[simp] theorem State.tell_pcnt (r : Reply) : (s.tell r).pcnt = s.pcnt := rfl
@[simp] theorem State.tell_cpulse (r : Reply) : (s.tell r).cpulse = s.cpulse := rfl
@[simp] theorem State.tell_line (r : Reply) : (s.tell r).line = s.line := rfl
@[simp] theorem State.tell_periodSh (r : Reply) : (s.tell r).periodSh = s.periodSh := rfl
@[simp] theorem State.tell_periodAct (r : Reply) : (s.tell r).periodAct = s.periodAct := rfl
@[simp] theorem State.tell_syncwSh (r : Reply) : (s.tell r).syncwSh = s.syncwSh := rfl
@[simp] theorem State.tell_syncwAct (r : Reply) : (s.tell r).syncwAct = s.syncwAct := rfl
@[simp] theorem State.tell_trigofsSh (r : Reply) : (s.tell r).trigofsSh = s.trigofsSh := rfl
@[simp] theorem State.tell_trigofsAct (r : Reply) : (s.tell r).trigofsAct = s.trigofsAct := rfl
@[simp] theorem State.tell_trigEn (r : Reply) : (s.tell r).trigEn = s.trigEn := rfl
@[simp] theorem State.tell_dmaAddr (r : Reply) : (s.tell r).dmaAddr = s.dmaAddr := rfl
@[simp] theorem State.tell_dmaLen (r : Reply) : (s.tell r).dmaLen = s.dmaLen := rfl
@[simp] theorem State.tell_dmaPclk (r : Reply) : (s.tell r).dmaPclk = s.dmaPclk := rfl
@[simp] theorem State.tell_slHstart (r : Reply) : (s.tell r).slHstart = s.slHstart := rfl
@[simp] theorem State.tell_slLen (r : Reply) : (s.tell r).slLen = s.slLen := rfl
@[simp] theorem State.tell_slData (r : Reply) : (s.tell r).slData = s.slData := rfl
@[simp] theorem State.tell_slPclk (r : Reply) : (s.tell r).slPclk = s.slPclk := rfl
@[simp] theorem State.tell_diagActive (r : Reply) : (s.tell r).diagActive = s.diagActive := rfl
@[simp] theorem State.tell_diagBlank (r : Reply) : (s.tell r).diagBlank = s.diagBlank := rfl
@[simp] theorem State.tell_xfer (r : Reply) : (s.tell r).xfer = s.xfer := rfl
@[simp] theorem State.tell_tickPending (r : Reply) : (s.tell r).tickPending = s.tickPending := rfl
@[simp] theorem State.tell_tcnt (r : Reply) : (s.tell r).tcnt = s.tcnt := rfl
@[simp] theorem State.tell_buf (r : Reply) : (s.tell r).buf = s.buf := rfl
@[simp] theorem State.tell_events (r : Reply) : (s.tell r).events = s.events := rfl
@[simp] theorem State.tell_cfg (r : Reply) : (s.tell r).cfg = s.cfg := rfl
@[simp] theorem State.tell_inbox (r : Reply) : (s.tell r).inbox = s.inbox := rfl
@[simp] theorem State.tell_answers (r : Reply) : (s.tell r).answers = s.answers := rfl
@[simp] theorem State.tell_overlap (r : Reply) : (s.tell r).overlap = s.overlap := rfl
@[simp] theorem State.tell_draws (r : Reply) : (s.tell r).draws = s.draws := rfl
@[simp] theorem State.tell_replies (r : Reply) : (s.tell r).replies = s.replies ++ [r] := rfl
@[simp] theorem State.tell_serial (r : Reply) : (s.tell r).serial = s.serial := rfl

/-! ### activate -/

@[simp] theorem State.activate_ctrl : (s.activate).ctrl = s.ctrl := rfl
@[simp] theorem State.activate_pidx : (s.activate).pidx = s.pidx := rfl
@[simp] theorem State.activate_pcnt : (s.activate).pcnt = s.pcnt := rfl
@[simp] theorem State.activate_cpulse : (s.activate).cpulse = s.cpulse := rfl
@[simp] theorem State.activate_line : (s.activate).line = s.line := rfl
@[simp] theorem State.activate_periodSh : (s.activate).periodSh = s.periodSh := rfl
@[simp] theorem State.activate_periodAct : (s.activate).periodAct = s.periodSh := rfl
@[simp] theorem State.activate_syncwSh : (s.activate).syncwSh = s.syncwSh := rfl
@[simp] theorem State.activate_syncwAct : (s.activate).syncwAct = s.syncwSh := rfl
@[simp] theorem State.activate_trigofsSh : (s.activate).trigofsSh = s.trigofsSh := rfl
@[simp] theorem State.activate_trigofsAct : (s.activate).trigofsAct = s.trigofsSh := rfl
@[simp] theorem State.activate_trigEn : (s.activate).trigEn = s.trigEn := rfl
@[simp] theorem State.activate_dmaAddr : (s.activate).dmaAddr = s.dmaAddr := rfl
@[simp] theorem State.activate_dmaLen : (s.activate).dmaLen = s.dmaLen := rfl
@[simp] theorem State.activate_dmaPclk : (s.activate).dmaPclk = s.dmaPclk := rfl
@[simp] theorem State.activate_slHstart : (s.activate).slHstart = s.slHstart := rfl
@[simp] theorem State.activate_slLen : (s.activate).slLen = s.slLen := rfl
@[simp] theorem State.activate_slData : (s.activate).slData = s.slData := rfl
@[simp] theorem State.activate_slPclk : (s.activate).slPclk = s.slPclk := rfl
@[simp] theorem State.activate_diagActive : (s.activate).diagActive = s.diagActive := rfl
@[simp] theorem State.activate_diagBlank : (s.activate).diagBlank = s.diagBlank := rfl
@[simp] theorem State.activate_xfer : (s.activate).xfer = s.xfer := rfl
@[simp] theorem State.activate_tickPending : (s.activate).tickPending = s.tickPending := rfl
@[simp] theorem State.activate_tcnt : (s.activate).tcnt = 0 := rfl
@[simp] theorem State.activate_buf : (s.activate).buf = s.buf := rfl
@[simp] theorem State.activate_events : (s.activate).events = s.events := rfl
@[simp] theorem State.activate_cfg : (s.activate).cfg = s.cfg := rfl
@[simp] theorem State.activate_inbox : (s.activate).inbox = s.inbox := rfl
@[simp] theorem State.activate_answers : (s.activate).answers = s.answers := rfl
@[simp] theorem State.activate_overlap : (s.activate).overlap = s.overlap := rfl
@[simp] theorem State.activate_draws : (s.activate).draws = s.draws := rfl
@[simp] theorem State.activate_replies : (s.activate).replies = s.replies := rfl
@[simp] theorem State.activate_serial : (s.activate).serial = s.serial := rfl

/-! ### arm -/

@[simp] theorem State.arm_ctrl : (s.arm).ctrl = s.ctrl := rfl
@[simp] theorem State.arm_pidx : (s.arm).pidx = s.pidx := rfl
@[simp] theorem State.arm_pcnt : (s.arm).pcnt = s.pcnt := rfl
@[simp] theorem State.arm_cpulse : (s.arm).cpulse = s.cpulse := rfl
@[simp] theorem State.arm_line : (s.arm).line = s.line := rfl
@[simp] theorem State.arm_periodSh : (s.arm).periodSh = s.periodSh := rfl
@[simp] theorem State.arm_periodAct : (s.arm).periodAct = s.periodAct := rfl
@[simp] theorem State.arm_syncwSh : (s.arm).syncwSh = s.syncwSh := rfl
@[simp] theorem State.arm_syncwAct : (s.arm).syncwAct = s.syncwAct := rfl
@[simp] theorem State.arm_trigofsSh : (s.arm).trigofsSh = s.trigofsSh := rfl
@[simp] theorem State.arm_trigofsAct : (s.arm).trigofsAct = s.trigofsAct := rfl
@[simp] theorem State.arm_trigEn : (s.arm).trigEn = true := rfl
@[simp] theorem State.arm_dmaAddr : (s.arm).dmaAddr = s.slData := rfl
@[simp] theorem State.arm_dmaLen : (s.arm).dmaLen = s.slLen := rfl
@[simp] theorem State.arm_dmaPclk : (s.arm).dmaPclk = s.slPclk := rfl
@[simp] theorem State.arm_slHstart : (s.arm).slHstart = s.slHstart := rfl
@[simp] theorem State.arm_slLen : (s.arm).slLen = s.slLen := rfl
@[simp] theorem State.arm_slData : (s.arm).slData = s.slData := rfl
@[simp] theorem State.arm_slPclk : (s.arm).slPclk = s.slPclk := rfl
@[simp] theorem State.arm_diagActive : (s.arm).diagActive = s.diagActive := rfl
@[simp] theorem State.arm_diagBlank : (s.arm).diagBlank = s.diagBlank := rfl
@[simp] theorem State.arm_xfer : (s.arm).xfer = borrowOf s.slData s.slLen s.slPclk := rfl
@[simp] theorem State.arm_tickPending : (s.arm).tickPending = s.tickPending := rfl
@[simp] theorem State.arm_tcnt : (s.arm).tcnt = s.tcnt := rfl
@[simp] theorem State.arm_buf : (s.arm).buf = s.buf := rfl
@[simp] theorem State.arm_events : (s.arm).events = s.events ++ [.arm s.slData s.slLen s.slPclk] := rfl
@[simp] theorem State.arm_cfg : (s.arm).cfg = s.cfg := rfl
@[simp] theorem State.arm_inbox : (s.arm).inbox = s.inbox := rfl
@[simp] theorem State.arm_answers : (s.arm).answers = s.answers := rfl
@[simp] theorem State.arm_overlap : (s.arm).overlap = s.overlap := rfl
@[simp] theorem State.arm_draws : (s.arm).draws = s.draws := rfl
@[simp] theorem State.arm_replies : (s.arm).replies = s.replies := rfl
@[simp] theorem State.arm_serial : (s.arm).serial = s.serial := rfl

/-! ### disarm -/

@[simp] theorem State.disarm_ctrl : (s.disarm).ctrl = s.ctrl := rfl
@[simp] theorem State.disarm_pidx : (s.disarm).pidx = s.pidx := rfl
@[simp] theorem State.disarm_pcnt : (s.disarm).pcnt = s.pcnt := rfl
@[simp] theorem State.disarm_cpulse : (s.disarm).cpulse = s.cpulse := rfl
@[simp] theorem State.disarm_line : (s.disarm).line = s.line := rfl
@[simp] theorem State.disarm_periodSh : (s.disarm).periodSh = s.periodSh := rfl
@[simp] theorem State.disarm_periodAct : (s.disarm).periodAct = s.periodAct := rfl
@[simp] theorem State.disarm_syncwSh : (s.disarm).syncwSh = s.syncwSh := rfl
@[simp] theorem State.disarm_syncwAct : (s.disarm).syncwAct = s.syncwAct := rfl
@[simp] theorem State.disarm_trigofsSh : (s.disarm).trigofsSh = s.trigofsSh := rfl
@[simp] theorem State.disarm_trigofsAct : (s.disarm).trigofsAct = s.trigofsAct := rfl
@[simp] theorem State.disarm_trigEn : (s.disarm).trigEn = false := rfl
@[simp] theorem State.disarm_dmaAddr : (s.disarm).dmaAddr = s.dmaAddr := rfl
@[simp] theorem State.disarm_dmaLen : (s.disarm).dmaLen = s.dmaLen := rfl
@[simp] theorem State.disarm_dmaPclk : (s.disarm).dmaPclk = s.dmaPclk := rfl
@[simp] theorem State.disarm_slHstart : (s.disarm).slHstart = s.slHstart := rfl
@[simp] theorem State.disarm_slLen : (s.disarm).slLen = s.slLen := rfl
@[simp] theorem State.disarm_slData : (s.disarm).slData = s.slData := rfl
@[simp] theorem State.disarm_slPclk : (s.disarm).slPclk = s.slPclk := rfl
@[simp] theorem State.disarm_diagActive : (s.disarm).diagActive = s.diagActive := rfl
@[simp] theorem State.disarm_diagBlank : (s.disarm).diagBlank = s.diagBlank := rfl
@[simp] theorem State.disarm_xfer : (s.disarm).xfer = s.xfer := rfl
@[simp] theorem State.disarm_tickPending : (s.disarm).tickPending = s.tickPending := rfl
@[simp] theorem State.disarm_tcnt : (s.disarm).tcnt = s.tcnt := rfl
@[simp] theorem State.disarm_buf : (s.disarm).buf = s.buf := rfl
@[simp] theorem State.disarm_events : (s.disarm).events = s.events ++ [.disarm] := rfl
@[simp] theorem State.disarm_cfg : (s.disarm).cfg = s.cfg := rfl
@[simp] theorem State.disarm_inbox : (s.disarm).inbox = s.inbox := rfl
@[simp] theorem State.disarm_answers : (s.disarm).answers = s.answers := rfl
@[simp] theorem State.disarm_overlap : (s.disarm).overlap = s.overlap := rfl
@[simp] theorem State.disarm_draws : (s.disarm).draws = s.draws := rfl
@[simp] theorem State.disarm_replies : (s.disarm).replies = s.replies := rfl
@[simp] theorem State.disarm_serial : (s.disarm).serial = s.serial := rfl

/-! ### makeCurrent -/

@[simp] theorem State.makeCurrent_ctrl (i : Index) (w : DescWord) : (s.makeCurrent i w).ctrl = s.ctrl := rfl
@[simp] theorem State.makeCurrent_pidx (i : Index) (w : DescWord) : (s.makeCurrent i w).pidx = i := rfl
@[simp] theorem State.makeCurrent_pcnt (i : Index) (w : DescWord) : (s.makeCurrent i w).pcnt = descDuration w := rfl
@[simp] theorem State.makeCurrent_cpulse (i : Index) (w : DescWord) : (s.makeCurrent i w).cpulse = w := rfl
@[simp] theorem State.makeCurrent_line (i : Index) (w : DescWord) : (s.makeCurrent i w).line = if descActive w = descActive s.cpulse then s.line else 0 := rfl
@[simp] theorem State.makeCurrent_periodSh (i : Index) (w : DescWord) : (s.makeCurrent i w).periodSh = s.periodSh := rfl
@[simp] theorem State.makeCurrent_periodAct (i : Index) (w : DescWord) : (s.makeCurrent i w).periodAct = s.periodAct := rfl
@[simp] theorem State.makeCurrent_syncwSh (i : Index) (w : DescWord) : (s.makeCurrent i w).syncwSh = s.syncwSh := rfl
@[simp] theorem State.makeCurrent_syncwAct (i : Index) (w : DescWord) : (s.makeCurrent i w).syncwAct = s.syncwAct := rfl
@[simp] theorem State.makeCurrent_trigofsSh (i : Index) (w : DescWord) : (s.makeCurrent i w).trigofsSh = s.trigofsSh := rfl
@[simp] theorem State.makeCurrent_trigofsAct (i : Index) (w : DescWord) : (s.makeCurrent i w).trigofsAct = s.trigofsAct := rfl
@[simp] theorem State.makeCurrent_trigEn (i : Index) (w : DescWord) : (s.makeCurrent i w).trigEn = s.trigEn := rfl
@[simp] theorem State.makeCurrent_dmaAddr (i : Index) (w : DescWord) : (s.makeCurrent i w).dmaAddr = s.dmaAddr := rfl
@[simp] theorem State.makeCurrent_dmaLen (i : Index) (w : DescWord) : (s.makeCurrent i w).dmaLen = s.dmaLen := rfl
@[simp] theorem State.makeCurrent_dmaPclk (i : Index) (w : DescWord) : (s.makeCurrent i w).dmaPclk = s.dmaPclk := rfl
@[simp] theorem State.makeCurrent_slHstart (i : Index) (w : DescWord) : (s.makeCurrent i w).slHstart = s.slHstart := rfl
@[simp] theorem State.makeCurrent_slLen (i : Index) (w : DescWord) : (s.makeCurrent i w).slLen = s.slLen := rfl
@[simp] theorem State.makeCurrent_slData (i : Index) (w : DescWord) : (s.makeCurrent i w).slData = s.slData := rfl
@[simp] theorem State.makeCurrent_slPclk (i : Index) (w : DescWord) : (s.makeCurrent i w).slPclk = s.slPclk := rfl
@[simp] theorem State.makeCurrent_diagActive (i : Index) (w : DescWord) : (s.makeCurrent i w).diagActive = s.diagActive := rfl
@[simp] theorem State.makeCurrent_diagBlank (i : Index) (w : DescWord) : (s.makeCurrent i w).diagBlank = s.diagBlank := rfl
@[simp] theorem State.makeCurrent_xfer (i : Index) (w : DescWord) : (s.makeCurrent i w).xfer = s.xfer := rfl
@[simp] theorem State.makeCurrent_tickPending (i : Index) (w : DescWord) : (s.makeCurrent i w).tickPending = s.tickPending := rfl
@[simp] theorem State.makeCurrent_tcnt (i : Index) (w : DescWord) : (s.makeCurrent i w).tcnt = s.tcnt := rfl
@[simp] theorem State.makeCurrent_buf (i : Index) (w : DescWord) : (s.makeCurrent i w).buf = s.buf := rfl
@[simp] theorem State.makeCurrent_events (i : Index) (w : DescWord) : (s.makeCurrent i w).events = s.events := rfl
@[simp] theorem State.makeCurrent_cfg (i : Index) (w : DescWord) : (s.makeCurrent i w).cfg = s.cfg := rfl
@[simp] theorem State.makeCurrent_inbox (i : Index) (w : DescWord) : (s.makeCurrent i w).inbox = s.inbox := rfl
@[simp] theorem State.makeCurrent_answers (i : Index) (w : DescWord) : (s.makeCurrent i w).answers = s.answers := rfl
@[simp] theorem State.makeCurrent_overlap (i : Index) (w : DescWord) : (s.makeCurrent i w).overlap = s.overlap := rfl
@[simp] theorem State.makeCurrent_draws (i : Index) (w : DescWord) : (s.makeCurrent i w).draws = s.draws := rfl
@[simp] theorem State.makeCurrent_replies (i : Index) (w : DescWord) : (s.makeCurrent i w).replies = s.replies := rfl
@[simp] theorem State.makeCurrent_serial (i : Index) (w : DescWord) : (s.makeCurrent i w).serial = s.serial := rfl

/-! ### countDown -/

@[simp] theorem State.countDown_ctrl : (s.countDown).ctrl = s.ctrl := rfl
@[simp] theorem State.countDown_pidx : (s.countDown).pidx = s.pidx := rfl
@[simp] theorem State.countDown_pcnt : (s.countDown).pcnt = s.pcnt - 1 := rfl
@[simp] theorem State.countDown_cpulse : (s.countDown).cpulse = s.cpulse := rfl
@[simp] theorem State.countDown_line : (s.countDown).line = s.line + 1 := rfl
@[simp] theorem State.countDown_periodSh : (s.countDown).periodSh = s.periodSh := rfl
@[simp] theorem State.countDown_periodAct : (s.countDown).periodAct = s.periodAct := rfl
@[simp] theorem State.countDown_syncwSh : (s.countDown).syncwSh = s.syncwSh := rfl
@[simp] theorem State.countDown_syncwAct : (s.countDown).syncwAct = s.syncwAct := rfl
@[simp] theorem State.countDown_trigofsSh : (s.countDown).trigofsSh = s.trigofsSh := rfl
@[simp] theorem State.countDown_trigofsAct : (s.countDown).trigofsAct = s.trigofsAct := rfl
@[simp] theorem State.countDown_trigEn : (s.countDown).trigEn = s.trigEn := rfl
@[simp] theorem State.countDown_dmaAddr : (s.countDown).dmaAddr = s.dmaAddr := rfl
@[simp] theorem State.countDown_dmaLen : (s.countDown).dmaLen = s.dmaLen := rfl
@[simp] theorem State.countDown_dmaPclk : (s.countDown).dmaPclk = s.dmaPclk := rfl
@[simp] theorem State.countDown_slHstart : (s.countDown).slHstart = s.slHstart := rfl
@[simp] theorem State.countDown_slLen : (s.countDown).slLen = s.slLen := rfl
@[simp] theorem State.countDown_slData : (s.countDown).slData = s.slData := rfl
@[simp] theorem State.countDown_slPclk : (s.countDown).slPclk = s.slPclk := rfl
@[simp] theorem State.countDown_diagActive : (s.countDown).diagActive = s.diagActive := rfl
@[simp] theorem State.countDown_diagBlank : (s.countDown).diagBlank = s.diagBlank := rfl
@[simp] theorem State.countDown_xfer : (s.countDown).xfer = s.xfer := rfl
@[simp] theorem State.countDown_tickPending : (s.countDown).tickPending = s.tickPending := rfl
@[simp] theorem State.countDown_tcnt : (s.countDown).tcnt = s.tcnt := rfl
@[simp] theorem State.countDown_buf : (s.countDown).buf = s.buf := rfl
@[simp] theorem State.countDown_events : (s.countDown).events = s.events := rfl
@[simp] theorem State.countDown_cfg : (s.countDown).cfg = s.cfg := rfl
@[simp] theorem State.countDown_inbox : (s.countDown).inbox = s.inbox := rfl
@[simp] theorem State.countDown_answers : (s.countDown).answers = s.answers := rfl
@[simp] theorem State.countDown_overlap : (s.countDown).overlap = s.overlap := rfl
@[simp] theorem State.countDown_draws : (s.countDown).draws = s.draws := rfl
@[simp] theorem State.countDown_replies : (s.countDown).replies = s.replies := rfl
@[simp] theorem State.countDown_serial : (s.countDown).serial = s.serial := rfl

/-! ### latch -/

@[simp] theorem State.latch_ctrl (v : Scanline) : (s.latch v).ctrl = s.ctrl := rfl
@[simp] theorem State.latch_pidx (v : Scanline) : (s.latch v).pidx = s.pidx := rfl
@[simp] theorem State.latch_pcnt (v : Scanline) : (s.latch v).pcnt = s.pcnt := rfl
@[simp] theorem State.latch_cpulse (v : Scanline) : (s.latch v).cpulse = s.cpulse := rfl
@[simp] theorem State.latch_line (v : Scanline) : (s.latch v).line = s.line := rfl
@[simp] theorem State.latch_periodSh (v : Scanline) : (s.latch v).periodSh = s.periodSh := rfl
@[simp] theorem State.latch_periodAct (v : Scanline) : (s.latch v).periodAct = s.periodAct := rfl
@[simp] theorem State.latch_syncwSh (v : Scanline) : (s.latch v).syncwSh = s.syncwSh := rfl
@[simp] theorem State.latch_syncwAct (v : Scanline) : (s.latch v).syncwAct = s.syncwAct := rfl
@[simp] theorem State.latch_trigofsSh (v : Scanline) : (s.latch v).trigofsSh = s.trigofsSh := rfl
@[simp] theorem State.latch_trigofsAct (v : Scanline) : (s.latch v).trigofsAct = s.trigofsAct := rfl
@[simp] theorem State.latch_trigEn (v : Scanline) : (s.latch v).trigEn = s.trigEn := rfl
@[simp] theorem State.latch_dmaAddr (v : Scanline) : (s.latch v).dmaAddr = s.dmaAddr := rfl
@[simp] theorem State.latch_dmaLen (v : Scanline) : (s.latch v).dmaLen = s.dmaLen := rfl
@[simp] theorem State.latch_dmaPclk (v : Scanline) : (s.latch v).dmaPclk = s.dmaPclk := rfl
@[simp] theorem State.latch_slHstart (v : Scanline) : (s.latch v).slHstart = v.hstart := rfl
@[simp] theorem State.latch_slLen (v : Scanline) : (s.latch v).slLen = v.len := rfl
@[simp] theorem State.latch_slData (v : Scanline) : (s.latch v).slData = v.data := rfl
@[simp] theorem State.latch_slPclk (v : Scanline) : (s.latch v).slPclk = v.pclk := rfl
@[simp] theorem State.latch_diagActive (v : Scanline) : (s.latch v).diagActive = s.diagActive := rfl
@[simp] theorem State.latch_diagBlank (v : Scanline) : (s.latch v).diagBlank = s.diagBlank := rfl
@[simp] theorem State.latch_xfer (v : Scanline) : (s.latch v).xfer = s.xfer := rfl
@[simp] theorem State.latch_tickPending (v : Scanline) : (s.latch v).tickPending = s.tickPending := rfl
@[simp] theorem State.latch_tcnt (v : Scanline) : (s.latch v).tcnt = s.tcnt := rfl
@[simp] theorem State.latch_buf (v : Scanline) : (s.latch v).buf = s.buf := rfl
@[simp] theorem State.latch_events (v : Scanline) : (s.latch v).events = s.events := rfl
@[simp] theorem State.latch_cfg (v : Scanline) : (s.latch v).cfg = s.cfg := rfl
@[simp] theorem State.latch_inbox (v : Scanline) : (s.latch v).inbox = s.inbox := rfl
@[simp] theorem State.latch_answers (v : Scanline) : (s.latch v).answers = s.answers := rfl
@[simp] theorem State.latch_overlap (v : Scanline) : (s.latch v).overlap = s.overlap := rfl
@[simp] theorem State.latch_draws (v : Scanline) : (s.latch v).draws = s.draws := rfl
@[simp] theorem State.latch_replies (v : Scanline) : (s.latch v).replies = s.replies := rfl
@[simp] theorem State.latch_serial (v : Scanline) : (s.latch v).serial = s.serial := rfl

/-! ### loadShadows -/

@[simp] theorem State.loadShadows_ctrl (t : PulseTable) : (s.loadShadows t).ctrl = s.ctrl := rfl
@[simp] theorem State.loadShadows_pidx (t : PulseTable) : (s.loadShadows t).pidx = s.pidx := rfl
@[simp] theorem State.loadShadows_pcnt (t : PulseTable) : (s.loadShadows t).pcnt = s.pcnt := rfl
@[simp] theorem State.loadShadows_cpulse (t : PulseTable) : (s.loadShadows t).cpulse = s.cpulse := rfl
@[simp] theorem State.loadShadows_line (t : PulseTable) : (s.loadShadows t).line = s.line := rfl
@[simp] theorem State.loadShadows_periodSh (t : PulseTable) : (s.loadShadows t).periodSh = hperOf t s.cpulse := rfl
@[simp] theorem State.loadShadows_periodAct (t : PulseTable) : (s.loadShadows t).periodAct = s.periodAct := rfl
@[simp] theorem State.loadShadows_syncwSh (t : PulseTable) : (s.loadShadows t).syncwSh = syncwOf t s.cpulse := rfl
@[simp] theorem State.loadShadows_syncwAct (t : PulseTable) : (s.loadShadows t).syncwAct = s.syncwAct := rfl
@[simp] theorem State.loadShadows_trigofsSh (t : PulseTable) : (s.loadShadows t).trigofsSh = trigofsOf t s.slHstart := rfl
@[simp] theorem State.loadShadows_trigofsAct (t : PulseTable) : (s.loadShadows t).trigofsAct = s.trigofsAct := rfl
@[simp] theorem State.loadShadows_trigEn (t : PulseTable) : (s.loadShadows t).trigEn = s.trigEn := rfl
@[simp] theorem State.loadShadows_dmaAddr (t : PulseTable) : (s.loadShadows t).dmaAddr = s.dmaAddr := rfl
@[simp] theorem State.loadShadows_dmaLen (t : PulseTable) : (s.loadShadows t).dmaLen = s.dmaLen := rfl
@[simp] theorem State.loadShadows_dmaPclk (t : PulseTable) : (s.loadShadows t).dmaPclk = s.dmaPclk := rfl
@[simp] theorem State.loadShadows_slHstart (t : PulseTable) : (s.loadShadows t).slHstart = s.slHstart := rfl
@[simp] theorem State.loadShadows_slLen (t : PulseTable) : (s.loadShadows t).slLen = s.slLen := rfl
@[simp] theorem State.loadShadows_slData (t : PulseTable) : (s.loadShadows t).slData = s.slData := rfl
@[simp] theorem State.loadShadows_slPclk (t : PulseTable) : (s.loadShadows t).slPclk = s.slPclk := rfl
@[simp] theorem State.loadShadows_diagActive (t : PulseTable) : (s.loadShadows t).diagActive = s.diagActive := rfl
@[simp] theorem State.loadShadows_diagBlank (t : PulseTable) : (s.loadShadows t).diagBlank = s.diagBlank := rfl
@[simp] theorem State.loadShadows_xfer (t : PulseTable) : (s.loadShadows t).xfer = s.xfer := rfl
@[simp] theorem State.loadShadows_tickPending (t : PulseTable) : (s.loadShadows t).tickPending = s.tickPending := rfl
@[simp] theorem State.loadShadows_tcnt (t : PulseTable) : (s.loadShadows t).tcnt = s.tcnt := rfl
@[simp] theorem State.loadShadows_buf (t : PulseTable) : (s.loadShadows t).buf = s.buf := rfl
@[simp] theorem State.loadShadows_events (t : PulseTable) : (s.loadShadows t).events = s.events ++ [.reprog (hperOf t s.cpulse) (syncwOf t s.cpulse) (trigofsOf t s.slHstart)] := rfl
@[simp] theorem State.loadShadows_cfg (t : PulseTable) : (s.loadShadows t).cfg = s.cfg := rfl
@[simp] theorem State.loadShadows_inbox (t : PulseTable) : (s.loadShadows t).inbox = s.inbox := rfl
@[simp] theorem State.loadShadows_answers (t : PulseTable) : (s.loadShadows t).answers = s.answers := rfl
@[simp] theorem State.loadShadows_overlap (t : PulseTable) : (s.loadShadows t).overlap = s.overlap := rfl
@[simp] theorem State.loadShadows_draws (t : PulseTable) : (s.loadShadows t).draws = s.draws := rfl
@[simp] theorem State.loadShadows_replies (t : PulseTable) : (s.loadShadows t).replies = s.replies := rfl
@[simp] theorem State.loadShadows_serial (t : PulseTable) : (s.loadShadows t).serial = s.serial := rfl

/-! ### clear -/

@[simp] theorem State.clear_ctrl : (s.clear).ctrl = 0 := rfl
@[simp] theorem State.clear_pidx : (s.clear).pidx = 0 := rfl
@[simp] theorem State.clear_pcnt : (s.clear).pcnt = 0 := rfl
@[simp] theorem State.clear_cpulse : (s.clear).cpulse = 0 := rfl
@[simp] theorem State.clear_line : (s.clear).line = 0 := rfl
@[simp] theorem State.clear_periodSh : (s.clear).periodSh = 0 := rfl
@[simp] theorem State.clear_periodAct : (s.clear).periodAct = 0 := rfl
@[simp] theorem State.clear_syncwSh : (s.clear).syncwSh = 0 := rfl
@[simp] theorem State.clear_syncwAct : (s.clear).syncwAct = 0 := rfl
@[simp] theorem State.clear_trigofsSh : (s.clear).trigofsSh = 0 := rfl
@[simp] theorem State.clear_trigofsAct : (s.clear).trigofsAct = 0 := rfl
@[simp] theorem State.clear_trigEn : (s.clear).trigEn = false := rfl
@[simp] theorem State.clear_dmaAddr : (s.clear).dmaAddr = 0 := rfl
@[simp] theorem State.clear_dmaLen : (s.clear).dmaLen = 0 := rfl
@[simp] theorem State.clear_dmaPclk : (s.clear).dmaPclk = 0 := rfl
@[simp] theorem State.clear_slHstart : (s.clear).slHstart = 0 := rfl
@[simp] theorem State.clear_slLen : (s.clear).slLen = 0 := rfl
@[simp] theorem State.clear_slData : (s.clear).slData = 0 := rfl
@[simp] theorem State.clear_slPclk : (s.clear).slPclk = 0 := rfl
@[simp] theorem State.clear_diagActive : (s.clear).diagActive = 0 := rfl
@[simp] theorem State.clear_diagBlank : (s.clear).diagBlank = 0 := rfl
@[simp] theorem State.clear_xfer : (s.clear).xfer = none := rfl
@[simp] theorem State.clear_tickPending : (s.clear).tickPending = false := rfl
@[simp] theorem State.clear_tcnt : (s.clear).tcnt = 0 := rfl
@[simp] theorem State.clear_buf : (s.clear).buf = s.buf := rfl
@[simp] theorem State.clear_events : (s.clear).events = s.events := rfl
@[simp] theorem State.clear_cfg : (s.clear).cfg = s.cfg := rfl
@[simp] theorem State.clear_inbox : (s.clear).inbox = s.inbox := rfl
@[simp] theorem State.clear_answers : (s.clear).answers = s.answers := rfl
@[simp] theorem State.clear_overlap : (s.clear).overlap = s.overlap := rfl
@[simp] theorem State.clear_draws : (s.clear).draws = s.draws := rfl
@[simp] theorem State.clear_replies : (s.clear).replies = s.replies := rfl
@[simp] theorem State.clear_serial : (s.clear).serial = s.serial := rfl

/-! ### construct -/

@[simp] theorem State.construct_ctrl (std : Std) (t : PulseTable) (w : DescWord) : (s.construct std t w).ctrl = ctrlRunning std := rfl
@[simp] theorem State.construct_pidx (std : Std) (t : PulseTable) (w : DescWord) : (s.construct std t w).pidx = 0 := rfl
@[simp] theorem State.construct_pcnt (std : Std) (t : PulseTable) (w : DescWord) : (s.construct std t w).pcnt = descDuration w := rfl
@[simp] theorem State.construct_cpulse (std : Std) (t : PulseTable) (w : DescWord) : (s.construct std t w).cpulse = w := rfl
@[simp] theorem State.construct_line (std : Std) (t : PulseTable) (w : DescWord) : (s.construct std t w).line = 0 := rfl
@[simp] theorem State.construct_periodSh (std : Std) (t : PulseTable) (w : DescWord) : (s.construct std t w).periodSh = hperOf t w := rfl
@[simp] theorem State.construct_periodAct (std : Std) (t : PulseTable) (w : DescWord) : (s.construct std t w).periodAct = hperOf t w := rfl
@[simp] theorem State.construct_syncwSh (std : Std) (t : PulseTable) (w : DescWord) : (s.construct std t w).syncwSh = syncwOf t w := rfl
@[simp] theorem State.construct_syncwAct (std : Std) (t : PulseTable) (w : DescWord) : (s.construct std t w).syncwAct = syncwOf t w := rfl
@[simp] theorem State.construct_trigofsSh (std : Std) (t : PulseTable) (w : DescWord) : (s.construct std t w).trigofsSh = t.syncNormal := rfl
@[simp] theorem State.construct_trigofsAct (std : Std) (t : PulseTable) (w : DescWord) : (s.construct std t w).trigofsAct = t.syncNormal := rfl
@[simp] theorem State.construct_trigEn (std : Std) (t : PulseTable) (w : DescWord) : (s.construct std t w).trigEn = false := rfl
@[simp] theorem State.construct_dmaAddr (std : Std) (t : PulseTable) (w : DescWord) : (s.construct std t w).dmaAddr = 0 := rfl
@[simp] theorem State.construct_dmaLen (std : Std) (t : PulseTable) (w : DescWord) : (s.construct std t w).dmaLen = 0 := rfl
@[simp] theorem State.construct_dmaPclk (std : Std) (t : PulseTable) (w : DescWord) : (s.construct std t w).dmaPclk = 0 := rfl
@[simp] theorem State.construct_slHstart (std : Std) (t : PulseTable) (w : DescWord) : (s.construct std t w).slHstart = 0 := rfl
@[simp] theorem State.construct_slLen (std : Std) (t : PulseTable) (w : DescWord) : (s.construct std t w).slLen = 0 := rfl
@[simp] theorem State.construct_slData (std : Std) (t : PulseTable) (w : DescWord) : (s.construct std t w).slData = 0 := rfl
@[simp] theorem State.construct_slPclk (std : Std) (t : PulseTable) (w : DescWord) : (s.construct std t w).slPclk = 0 := rfl
@[simp] theorem State.construct_diagActive (std : Std) (t : PulseTable) (w : DescWord) : (s.construct std t w).diagActive = 0 := rfl
@[simp] theorem State.construct_diagBlank (std : Std) (t : PulseTable) (w : DescWord) : (s.construct std t w).diagBlank = 0 := rfl
@[simp] theorem State.construct_xfer (std : Std) (t : PulseTable) (w : DescWord) : (s.construct std t w).xfer = none := rfl
@[simp] theorem State.construct_tickPending (std : Std) (t : PulseTable) (w : DescWord) : (s.construct std t w).tickPending = false := rfl
@[simp] theorem State.construct_tcnt (std : Std) (t : PulseTable) (w : DescWord) : (s.construct std t w).tcnt = 0 := rfl
@[simp] theorem State.construct_buf (std : Std) (t : PulseTable) (w : DescWord) : (s.construct std t w).buf = s.buf := rfl
@[simp] theorem State.construct_events (std : Std) (t : PulseTable) (w : DescWord) : (s.construct std t w).events = s.events := rfl
@[simp] theorem State.construct_cfg (std : Std) (t : PulseTable) (w : DescWord) : (s.construct std t w).cfg = s.cfg := rfl
@[simp] theorem State.construct_inbox (std : Std) (t : PulseTable) (w : DescWord) : (s.construct std t w).inbox = s.inbox := rfl
@[simp] theorem State.construct_answers (std : Std) (t : PulseTable) (w : DescWord) : (s.construct std t w).answers = s.answers := rfl
@[simp] theorem State.construct_overlap (std : Std) (t : PulseTable) (w : DescWord) : (s.construct std t w).overlap = s.overlap := rfl
@[simp] theorem State.construct_draws (std : Std) (t : PulseTable) (w : DescWord) : (s.construct std t w).draws = s.draws := rfl
@[simp] theorem State.construct_replies (std : Std) (t : PulseTable) (w : DescWord) : (s.construct std t w).replies = s.replies := rfl
@[simp] theorem State.construct_serial (std : Std) (t : PulseTable) (w : DescWord) : (s.construct std t w).serial = s.serial := rfl

/-! ### xferStep and waitFor: XFER's borrow and output, and the inbox of what waits -/

@[simp] theorem xferStep_ctrl : (xferStep s).ctrl = s.ctrl := by unfold xferStep; split <;> [rfl; (split <;> rfl)]
@[simp] theorem xferStep_pidx : (xferStep s).pidx = s.pidx := by unfold xferStep; split <;> [rfl; (split <;> rfl)]
@[simp] theorem xferStep_pcnt : (xferStep s).pcnt = s.pcnt := by unfold xferStep; split <;> [rfl; (split <;> rfl)]
@[simp] theorem xferStep_cpulse : (xferStep s).cpulse = s.cpulse := by unfold xferStep; split <;> [rfl; (split <;> rfl)]
@[simp] theorem xferStep_line : (xferStep s).line = s.line := by unfold xferStep; split <;> [rfl; (split <;> rfl)]
@[simp] theorem xferStep_periodSh : (xferStep s).periodSh = s.periodSh := by unfold xferStep; split <;> [rfl; (split <;> rfl)]
@[simp] theorem xferStep_periodAct : (xferStep s).periodAct = s.periodAct := by unfold xferStep; split <;> [rfl; (split <;> rfl)]
@[simp] theorem xferStep_syncwSh : (xferStep s).syncwSh = s.syncwSh := by unfold xferStep; split <;> [rfl; (split <;> rfl)]
@[simp] theorem xferStep_syncwAct : (xferStep s).syncwAct = s.syncwAct := by unfold xferStep; split <;> [rfl; (split <;> rfl)]
@[simp] theorem xferStep_trigofsSh : (xferStep s).trigofsSh = s.trigofsSh := by unfold xferStep; split <;> [rfl; (split <;> rfl)]
@[simp] theorem xferStep_trigofsAct : (xferStep s).trigofsAct = s.trigofsAct := by unfold xferStep; split <;> [rfl; (split <;> rfl)]
@[simp] theorem xferStep_trigEn : (xferStep s).trigEn = s.trigEn := by unfold xferStep; split <;> [rfl; (split <;> rfl)]
@[simp] theorem xferStep_dmaAddr : (xferStep s).dmaAddr = s.dmaAddr := by unfold xferStep; split <;> [rfl; (split <;> rfl)]
@[simp] theorem xferStep_dmaLen : (xferStep s).dmaLen = s.dmaLen := by unfold xferStep; split <;> [rfl; (split <;> rfl)]
@[simp] theorem xferStep_dmaPclk : (xferStep s).dmaPclk = s.dmaPclk := by unfold xferStep; split <;> [rfl; (split <;> rfl)]
@[simp] theorem xferStep_slHstart : (xferStep s).slHstart = s.slHstart := by unfold xferStep; split <;> [rfl; (split <;> rfl)]
@[simp] theorem xferStep_slLen : (xferStep s).slLen = s.slLen := by unfold xferStep; split <;> [rfl; (split <;> rfl)]
@[simp] theorem xferStep_slData : (xferStep s).slData = s.slData := by unfold xferStep; split <;> [rfl; (split <;> rfl)]
@[simp] theorem xferStep_slPclk : (xferStep s).slPclk = s.slPclk := by unfold xferStep; split <;> [rfl; (split <;> rfl)]
@[simp] theorem xferStep_diagActive : (xferStep s).diagActive = s.diagActive := by unfold xferStep; split <;> [rfl; (split <;> rfl)]
@[simp] theorem xferStep_diagBlank : (xferStep s).diagBlank = s.diagBlank := by unfold xferStep; split <;> [rfl; (split <;> rfl)]
@[simp] theorem xferStep_tickPending : (xferStep s).tickPending = s.tickPending := by unfold xferStep; split <;> [rfl; (split <;> rfl)]
@[simp] theorem xferStep_tcnt : (xferStep s).tcnt = s.tcnt := by unfold xferStep; split <;> [rfl; (split <;> rfl)]
@[simp] theorem xferStep_buf : (xferStep s).buf = s.buf := by unfold xferStep; split <;> [rfl; (split <;> rfl)]
@[simp] theorem xferStep_events : (xferStep s).events = s.events := by unfold xferStep; split <;> [rfl; (split <;> rfl)]
@[simp] theorem xferStep_cfg : (xferStep s).cfg = s.cfg := by unfold xferStep; split <;> [rfl; (split <;> rfl)]
@[simp] theorem xferStep_inbox : (xferStep s).inbox = s.inbox := by unfold xferStep; split <;> [rfl; (split <;> rfl)]
@[simp] theorem xferStep_answers : (xferStep s).answers = s.answers := by unfold xferStep; split <;> [rfl; (split <;> rfl)]
@[simp] theorem xferStep_overlap : (xferStep s).overlap = s.overlap := by unfold xferStep; split <;> [rfl; (split <;> rfl)]
@[simp] theorem xferStep_draws : (xferStep s).draws = s.draws := by unfold xferStep; split <;> [rfl; (split <;> rfl)]
@[simp] theorem xferStep_replies : (xferStep s).replies = s.replies := by unfold xferStep; split <;> [rfl; (split <;> rfl)]

@[simp] theorem State.waitFor_ctrl (x : Stimulus) : (s.waitFor x).ctrl = s.ctrl := xferStep_ctrl s
@[simp] theorem State.waitFor_pidx (x : Stimulus) : (s.waitFor x).pidx = s.pidx := xferStep_pidx s
@[simp] theorem State.waitFor_pcnt (x : Stimulus) : (s.waitFor x).pcnt = s.pcnt := xferStep_pcnt s
@[simp] theorem State.waitFor_cpulse (x : Stimulus) : (s.waitFor x).cpulse = s.cpulse := xferStep_cpulse s
@[simp] theorem State.waitFor_line (x : Stimulus) : (s.waitFor x).line = s.line := xferStep_line s
@[simp] theorem State.waitFor_periodSh (x : Stimulus) : (s.waitFor x).periodSh = s.periodSh := xferStep_periodSh s
@[simp] theorem State.waitFor_periodAct (x : Stimulus) : (s.waitFor x).periodAct = s.periodAct := xferStep_periodAct s
@[simp] theorem State.waitFor_syncwSh (x : Stimulus) : (s.waitFor x).syncwSh = s.syncwSh := xferStep_syncwSh s
@[simp] theorem State.waitFor_syncwAct (x : Stimulus) : (s.waitFor x).syncwAct = s.syncwAct := xferStep_syncwAct s
@[simp] theorem State.waitFor_trigofsSh (x : Stimulus) : (s.waitFor x).trigofsSh = s.trigofsSh := xferStep_trigofsSh s
@[simp] theorem State.waitFor_trigofsAct (x : Stimulus) : (s.waitFor x).trigofsAct = s.trigofsAct := xferStep_trigofsAct s
@[simp] theorem State.waitFor_trigEn (x : Stimulus) : (s.waitFor x).trigEn = s.trigEn := xferStep_trigEn s
@[simp] theorem State.waitFor_dmaAddr (x : Stimulus) : (s.waitFor x).dmaAddr = s.dmaAddr := xferStep_dmaAddr s
@[simp] theorem State.waitFor_dmaLen (x : Stimulus) : (s.waitFor x).dmaLen = s.dmaLen := xferStep_dmaLen s
@[simp] theorem State.waitFor_dmaPclk (x : Stimulus) : (s.waitFor x).dmaPclk = s.dmaPclk := xferStep_dmaPclk s
@[simp] theorem State.waitFor_slHstart (x : Stimulus) : (s.waitFor x).slHstart = s.slHstart := xferStep_slHstart s
@[simp] theorem State.waitFor_slLen (x : Stimulus) : (s.waitFor x).slLen = s.slLen := xferStep_slLen s
@[simp] theorem State.waitFor_slData (x : Stimulus) : (s.waitFor x).slData = s.slData := xferStep_slData s
@[simp] theorem State.waitFor_slPclk (x : Stimulus) : (s.waitFor x).slPclk = s.slPclk := xferStep_slPclk s
@[simp] theorem State.waitFor_diagActive (x : Stimulus) : (s.waitFor x).diagActive = s.diagActive := xferStep_diagActive s
@[simp] theorem State.waitFor_diagBlank (x : Stimulus) : (s.waitFor x).diagBlank = s.diagBlank := xferStep_diagBlank s
@[simp] theorem State.waitFor_xfer (x : Stimulus) : (s.waitFor x).xfer = (xferStep s).xfer := rfl
@[simp] theorem State.waitFor_tickPending (x : Stimulus) : (s.waitFor x).tickPending = s.tickPending := xferStep_tickPending s
@[simp] theorem State.waitFor_tcnt (x : Stimulus) : (s.waitFor x).tcnt = s.tcnt := xferStep_tcnt s
@[simp] theorem State.waitFor_buf (x : Stimulus) : (s.waitFor x).buf = s.buf := xferStep_buf s
@[simp] theorem State.waitFor_events (x : Stimulus) : (s.waitFor x).events = s.events := xferStep_events s
@[simp] theorem State.waitFor_cfg (x : Stimulus) : (s.waitFor x).cfg = s.cfg := xferStep_cfg s
@[simp] theorem State.waitFor_inbox (x : Stimulus) : (s.waitFor x).inbox = x :: s.inbox := rfl
@[simp] theorem State.waitFor_answers (x : Stimulus) : (s.waitFor x).answers = s.answers := xferStep_answers s
@[simp] theorem State.waitFor_overlap (x : Stimulus) : (s.waitFor x).overlap = s.overlap := xferStep_overlap s
@[simp] theorem State.waitFor_draws (x : Stimulus) : (s.waitFor x).draws = s.draws := xferStep_draws s
@[simp] theorem State.waitFor_replies (x : Stimulus) : (s.waitFor x).replies = s.replies := xferStep_replies s
@[simp] theorem State.waitFor_serial (x : Stimulus) : (s.waitFor x).serial = (xferStep s).serial := rfl

/-! ### record: one diagnostic counter and the count of draws -/

@[simp] theorem State.record_ctrl : s.record.ctrl = s.ctrl := by unfold State.record; split <;> rfl
@[simp] theorem State.record_pidx : s.record.pidx = s.pidx := by unfold State.record; split <;> rfl
@[simp] theorem State.record_pcnt : s.record.pcnt = s.pcnt := by unfold State.record; split <;> rfl
@[simp] theorem State.record_cpulse : s.record.cpulse = s.cpulse := by unfold State.record; split <;> rfl
@[simp] theorem State.record_line : s.record.line = s.line := by unfold State.record; split <;> rfl
@[simp] theorem State.record_periodSh : s.record.periodSh = s.periodSh := by unfold State.record; split <;> rfl
@[simp] theorem State.record_periodAct : s.record.periodAct = s.periodAct := by unfold State.record; split <;> rfl
@[simp] theorem State.record_syncwSh : s.record.syncwSh = s.syncwSh := by unfold State.record; split <;> rfl
@[simp] theorem State.record_syncwAct : s.record.syncwAct = s.syncwAct := by unfold State.record; split <;> rfl
@[simp] theorem State.record_trigofsSh : s.record.trigofsSh = s.trigofsSh := by unfold State.record; split <;> rfl
@[simp] theorem State.record_trigofsAct : s.record.trigofsAct = s.trigofsAct := by unfold State.record; split <;> rfl
@[simp] theorem State.record_trigEn : s.record.trigEn = s.trigEn := by unfold State.record; split <;> rfl
@[simp] theorem State.record_dmaAddr : s.record.dmaAddr = s.dmaAddr := by unfold State.record; split <;> rfl
@[simp] theorem State.record_dmaLen : s.record.dmaLen = s.dmaLen := by unfold State.record; split <;> rfl
@[simp] theorem State.record_dmaPclk : s.record.dmaPclk = s.dmaPclk := by unfold State.record; split <;> rfl
@[simp] theorem State.record_slHstart : s.record.slHstart = s.slHstart := by unfold State.record; split <;> rfl
@[simp] theorem State.record_slLen : s.record.slLen = s.slLen := by unfold State.record; split <;> rfl
@[simp] theorem State.record_slData : s.record.slData = s.slData := by unfold State.record; split <;> rfl
@[simp] theorem State.record_slPclk : s.record.slPclk = s.slPclk := by unfold State.record; split <;> rfl
@[simp] theorem State.record_xfer : s.record.xfer = s.xfer := by unfold State.record; split <;> rfl
@[simp] theorem State.record_tickPending : s.record.tickPending = s.tickPending := by unfold State.record; split <;> rfl
@[simp] theorem State.record_tcnt : s.record.tcnt = s.tcnt := by unfold State.record; split <;> rfl
@[simp] theorem State.record_buf : s.record.buf = s.buf := by unfold State.record; split <;> rfl
@[simp] theorem State.record_events : s.record.events = s.events := by unfold State.record; split <;> rfl
@[simp] theorem State.record_cfg : s.record.cfg = s.cfg := by unfold State.record; split <;> rfl
@[simp] theorem State.record_inbox : s.record.inbox = s.inbox := by unfold State.record; split <;> rfl
@[simp] theorem State.record_answers : s.record.answers = s.answers := by unfold State.record; split <;> rfl
@[simp] theorem State.record_overlap : s.record.overlap = s.overlap := by unfold State.record; split <;> rfl
@[simp] theorem State.record_draws : s.record.draws = s.draws + 1 := by unfold State.record; split <;> rfl
@[simp] theorem State.record_replies : s.record.replies = s.replies := by unfold State.record; split <;> rfl
@[simp] theorem State.record_serial : s.record.serial = s.serial := by unfold State.record; split <;> rfl

end Sys2Proof.Machine
end

