-- ==== Sys2Proof/Laws/Ops.lean ====
section
/-! SUPPORT. For each shared operation one lemma that says what it can do when it answers a next state, and small facts
about the operations that always answer one. -/

namespace Sys2Proof.Machine

/-! ### Sequencing -/

@[simp] theorem andThen_next (s : State) (k : State → Result) : andThen (.next s) k = k s := rfl
@[simp] theorem andThen_fault (f : Fault) (k : State → Result) : andThen (.fault f) k = .fault f := rfl
@[simp] theorem andThen_refused (c : Refusal) (k : State → Result) : andThen (.refused c) k = .refused c := rfl

theorem andThen_eq_next {r : Result} {k : State → Result} {s' : State} (h : andThen r k = .next s') :
    ∃ s, r = .next s ∧ k s = .next s' := by
  cases r with
  | next s => exact ⟨s, rfl, h⟩
  | fault f => cases h
  | refused c => cases h

theorem withTable_eq_next {s s' : State} {k : PulseTable → Result} (h : withTable s k = .next s') :
    ∃ t, s.table? = some t ∧ k t = .next s' := by
  unfold withTable at h
  split at h
  · exact ⟨_, ‹_›, h⟩
  · cases h

theorem withTable_some {s : State} {t : PulseTable} (h : s.table? = some t) (k : PulseTable → Result) :
    withTable s k = k t := by
  simp only [withTable, h]

@[simp] theorem ctxView_emit (t : PulseTable) (s : State) (e : Event) : ctxView t (s.emit e) = ctxView t s := rfl

/-! ### Answers of PRODUCER -/

/-- Taking an answer changes only the queue and the count of draws. -/
theorem takeAnswer_eq (s : State) :
    s.takeAnswer = { s with answers := s.takeAnswer.answers, draws := s.takeAnswer.draws } := by
  unfold State.takeAnswer
  split <;> rfl

/-! ### XFER -/

/-- A step of XFER changes only its borrow and the serial output. -/
theorem xferStep_eq (s : State) :
    xferStep s = { s with xfer := (xferStep s).xfer, serial := (xferStep s).serial } := by
  unfold xferStep
  split
  · rfl
  · split <;> rfl

theorem xferStep_none {s : State} (h : s.xfer = none) : xferStep s = s := by
  simp [xferStep, h]

theorem xferStep_some {s : State} {b : Borrow} (h : s.xfer = some b) (hb : b.done < b.len.toNat) :
    xferStep s =
      { s with
        serial := s.serial ++ [(b.pclk, readByte s.buf (nextByteAddr b).toNat)],
        xfer := if b.done + 1 < b.len.toNat then some { b with done := b.done + 1 } else none } := by
  simp [xferStep, h, hb]

/-- Any number of steps of XFER change only its borrow and the serial output. -/
theorem xferSteps_eq (k : Nat) (s : State) :
    xferSteps k s = { s with xfer := (xferSteps k s).xfer, serial := (xferSteps k s).serial } := by
  induction k generalizing s with
  | zero => rfl
  | succ k ih =>
    simp only [xferSteps]
    rw [ih (xferStep s)]
    rw [xferStep_eq s]

theorem xferSteps_none {s : State} (h : s.xfer = none) (k : Nat) : xferSteps k s = s := by
  induction k with
  | zero => rfl
  | succ k ih => simp only [xferSteps, xferStep_none h, ih]

/-- With one step more than it has bytes left, XFER has no borrow any more. -/
theorem xferSteps_xfer_none {s : State} {b : Borrow} (h : s.xfer = some b) (k : Nat) (hk : b.len.toNat - b.done < k) :
    (xferSteps k s).xfer = none := by
  induction k generalizing s b with
  | zero => omega
  | succ k ih =>
    simp only [xferSteps]
    by_cases hb : b.done < b.len.toNat
    · by_cases hb' : b.done + 1 < b.len.toNat
      · refine ih (b := { b with done := b.done + 1 }) ?_ (by simp only; omega)
        simp [xferStep_some h hb, hb']
      · have hn : (xferStep s).xfer = none := by simp [xferStep_some h hb, hb']
        rw [xferSteps_none hn]
        exact hn
    · have hn : (xferStep s).xfer = none := by simp [xferStep, h, hb]
      rw [xferSteps_none hn]
      exact hn

/-- XFER's steps in a gap of a service change only the queue of gaps, its borrow and the serial output. -/
theorem xferMeanwhile_eq (s : State) :
    xferMeanwhile s =
      { s with
        overlap := (xferMeanwhile s).overlap, xfer := (xferMeanwhile s).xfer, serial := (xferMeanwhile s).serial } := by
  unfold xferMeanwhile
  split
  · rfl
  · rw [xferSteps_eq]

theorem xferMeanwhile_nil {s : State} (h : s.overlap = []) : xferMeanwhile s = s := by
  simp only [xferMeanwhile, h]

/-- Without a borrow a gap takes its number from the queue and does nothing else. -/
theorem xferMeanwhile_none {s : State} (h : s.xfer = none) : xferMeanwhile s = { s with overlap := s.overlap.tail } := by
  unfold xferMeanwhile
  split
  · rename_i ho
    rw [ho, List.tail_nil, ← ho]
  · rename_i k rest ho
    rw [ho, List.tail_cons]
    exact xferSteps_none (s := { s with overlap := rest }) h k

/-- A stimulus that waits leaves the state a step of XFER leaves, with itself at the head of the inbox. -/
theorem waitFor_eq (s : State) (x : Stimulus) :
    s.waitFor x = { s with xfer := (xferStep s).xfer, serial := (xferStep s).serial, inbox := x :: s.inbox } := by
  unfold State.waitFor
  rw [xferStep_eq]

/-- BOUNDARY without a borrow: the copy. -/
theorem boundary_of_no_borrow {s : State} (h : s.xfer = none) : boundary s = s.activate := by
  simp [boundary, h]

/-- BOUNDARY with a borrow waits. -/
theorem boundary_of_borrow {s : State} {b : Borrow} (h : s.xfer = some b) :
    boundary s = s.waitFor (.operation (opWord 0x9 0)) := by
  simp [boundary, h]

/-- The entry of a service changes only the active registers, TCNT and the pending record. -/
theorem enterService_eq (s : State) :
    enterService s =
      { s with
        periodAct := (enterService s).periodAct, syncwAct := (enterService s).syncwAct,
        trigofsAct := (enterService s).trigofsAct, tcnt := (enterService s).tcnt, tickPending := false } := by
  unfold enterService
  split
  · rfl
  · rename_i h
    simp [State.activate, h]

/-! ### A call of `on_scanline` -/

theorem producerWrite_eq_next {a : Addr} {v : Byte} {s s' : State} (h : producerWrite a v s = .next s') :
    (∀ b, s.xfer = some b → unread b a = false) ∧ s' = { s with buf := writeByte s.buf a.toNat v } := by
  unfold producerWrite at h
  split at h
  · cases h
  · rename_i hx
    refine ⟨fun b hb => ?_, by cases h; rfl⟩
    simpa [hb] using hx

/-- A call that goes through changes only BUF, XFER's borrow and the serial output. -/
theorem callActs_eq_next {xs : List CallAct} {s s' : State} (h : callActs xs s = .next s') :
    s' = { s with buf := s'.buf, xfer := s'.xfer, serial := s'.serial } := by
  induction xs generalizing s with
  | nil => cases h; rfl
  | cons x xs ih =>
    obtain ⟨s1, h1, h2⟩ := andThen_eq_next h
    have h3 := ih h2
    cases x with
    | write a v =>
      obtain ⟨_, rfl⟩ := producerWrite_eq_next h1
      exact h3
    | xfer =>
      cases h1
      rw [xferStep_eq s] at h3
      exact h3

/-- A call that goes through keeps BUF in its canonical form. -/
theorem callActs_wf {xs : List CallAct} {s s' : State} (h : callActs xs s = .next s') (hs : s.buf.wf = true) :
    s'.buf.wf = true := by
  induction xs generalizing s with
  | nil => cases h; exact hs
  | cons x xs ih =>
    obtain ⟨s1, h1, h2⟩ := andThen_eq_next h
    refine ih h2 ?_
    cases x with
    | write a v =>
      obtain ⟨_, rfl⟩ := producerWrite_eq_next h1
      exact Memory.wf_writeByte hs a.isLt v
    | xfer =>
      cases h1
      rw [xferStep_eq s]
      exact hs

/-! ### The sequencer -/

theorem wrap_eq_next {s s' : State} (h : wrap s = .next s') :
    ∃ t w, s.table? = some t ∧ t.fetch 0 = some w ∧ s' = s.makeCurrent 0 w := by
  obtain ⟨t, ht, h⟩ := withTable_eq_next h
  split at h
  · exact ⟨t, _, ht, ‹_›, by cases h; rfl⟩
  · cases h

/-- What an accepted word does: a PULSE becomes current at the next index, END wraps. -/
theorem acceptDescriptor_eq_next {w : DescWord} {s s' : State} (h : acceptDescriptor w s = .next s') :
    (descDuration w ≠ 0 ∧ s' = s.makeCurrent (s.pidx + 1) w) ∨ (descDuration w = 0 ∧ wrap s = .next s') := by
  unfold acceptDescriptor at h
  split at h
  · exact .inr ⟨‹_›, h⟩
  · exact .inl ⟨‹_›, by cases h; rfl⟩

/-- STEP does one of three things: it counts down, it makes the next descriptor current, or it wraps. -/
theorem advance_eq_next {s s' : State} (h : advance s = .next s') :
    (s.pcnt - 1 ≠ 0 ∧ s' = s.countDown) ∨
    (∃ t w, s.pcnt - 1 = 0 ∧ s.table? = some t ∧ t.fetch (s.pidx + 1) = some w ∧ descDuration w ≠ 0 ∧
      s' = s.countDown.makeCurrent (s.pidx + 1) w) ∨
    (∃ t w w0, s.pcnt - 1 = 0 ∧ s.table? = some t ∧ t.fetch (s.pidx + 1) = some w ∧ descDuration w = 0 ∧
      t.fetch 0 = some w0 ∧ s' = s.countDown.makeCurrent 0 w0) := by
  unfold advance at h
  split at h
  · exact .inl ⟨‹_›, by cases h; rfl⟩
  · rename_i hz
    have hz : s.pcnt - 1 = 0 := by simpa using hz
    obtain ⟨t, ht, h⟩ := withTable_eq_next h
    have ht : s.table? = some t := ht
    split at h
    · rename_i w hw
      have hw : t.fetch (s.pidx + 1) = some w := hw
      rcases acceptDescriptor_eq_next h with ⟨hd, rfl⟩ | ⟨hd, h⟩
      · exact .inr (.inl ⟨t, w, hz, ht, hw, hd, rfl⟩)
      · obtain ⟨t', w0, ht', hw0, rfl⟩ := wrap_eq_next h
        have ht' : s.table? = some t' := ht'
        cases ht.symm.trans ht'
        exact .inr (.inr ⟨t, w, w0, hz, ht, hw, hd, hw0, rfl⟩)
    · cases h

/-! ### The parts of the service -/

theorem arbitrate_eq_next {s s' : State} (h : arbitrate s = .next s') :
    (s.isActive = true ∧ s.slPclk ≠ 3 ∧ s.slData.toNat + s.slLen.toNat ≤ 2 ^ Config.addrW ∧ s' = s.arm) ∨
    (s.isActive = false ∧ s' = s.disarm) := by
  unfold arbitrate at h
  split at h
  · rename_i ha
    split at h
    · cases h
    · rename_i hp
      split at h
      · cases h
      · rename_i hw
        exact .inl ⟨ha, hp, by omega, by cases h; rfl⟩
  · rename_i ha
    exact .inr ⟨by simpa using ha, by cases h; rfl⟩

theorem produce_eq_next {s s' : State} (h : produce s = .next s') :
    ∃ t s1, s.table? = some t ∧
      callActs s.nextAnswer.acts (s.emit (.scanlineReq (ctxView t s))).takeAnswer = .next s1 ∧
      s' = s1.latch s.nextAnswer.scanline := by
  obtain ⟨t, ht, h⟩ := withTable_eq_next h
  obtain ⟨s1, h1, h2⟩ := andThen_eq_next h
  exact ⟨t, s1, ht, h1, by cases h2; rfl⟩

theorem vblank_eq_next {s s' : State} (h : vblank s = .next s') :
    ∃ t, s.table? = some t ∧ s' = s.emit (.vblank (ctxView t s)) := by
  obtain ⟨t, ht, h⟩ := withTable_eq_next h
  exact ⟨t, ht, by cases h; rfl⟩

/-- The dispatch has three exclusive outcomes (R177). -/
theorem dispatch_eq_next {s s' : State} (h : dispatch s = .next s') :
    (s.isActive = true ∧ produce s = .next s') ∨ (s.isActive = false ∧ s.line = 0 ∧ vblank s = .next s') ∨
    (s.isActive = false ∧ s.line ≠ 0 ∧ s' = s) := by
  unfold dispatch at h
  split at h
  · exact .inl ⟨‹_›, h⟩
  · rename_i ha
    have ha : s.isActive = false := by simpa using ha
    split at h
    · exact .inr (.inl ⟨ha, ‹_›, h⟩)
    · exact .inr (.inr ⟨ha, ‹_›, by cases h; rfl⟩)

theorem reprogram_eq_next {s s' : State} (h : reprogram s = .next s') :
    ∃ t, s.table? = some t ∧ s' = s.loadShadows t := by
  obtain ⟨t, ht, h⟩ := withTable_eq_next h
  exact ⟨t, ht, by cases h; rfl⟩

/-- A service that goes through runs its parts one after another, with XFER's steps between them (R170, R68). -/
theorem serviceBody_eq_next {s s' : State} (h : serviceBody s = .next s') :
    ∃ s1 s2 s3 t, arbitrate s = .next s1 ∧ advance (xferMeanwhile s1) = .next s2 ∧
      dispatch (xferMeanwhile s2) = .next s3 ∧ s3.table? = some t ∧
      s' = (xferMeanwhile ((xferMeanwhile s3).loadShadows t)).record := by
  obtain ⟨s1, h1, h⟩ := andThen_eq_next h
  obtain ⟨s2, h2, h⟩ := andThen_eq_next h
  obtain ⟨s3, h3, h⟩ := andThen_eq_next h
  obtain ⟨s4, h4, h⟩ := andThen_eq_next h
  obtain ⟨t, ht, rfl⟩ := reprogram_eq_next h4
  rw [xferMeanwhile_eq s3] at ht
  exact ⟨s1, s2, s3, t, h1, h2, h3, ht, by cases h; rfl⟩

/-- TICK is ignored, or it enters the service and runs it, or its boundary waits for XFER (R69). -/
theorem service_eq_next {s s' : State} (h : service s = .next s') :
    (s.serving = false ∧ s' = s) ∨
    (s.serving = true ∧ s.tickEnabled = true ∧ serviceBody (enterService s) = .next s') ∨
    (s.serving = true ∧ s.tickEnabled = false ∧ s' = s.waitFor (.operation (opWord 0x8 0))) := by
  unfold service at h
  split at h
  · split at h
    · exact .inr (.inl ⟨‹_›, ‹_›, h⟩)
    · rename_i hs he
      exact .inr (.inr ⟨hs, by simpa using he, by cases h; rfl⟩)
  · rename_i hs
    exact .inl ⟨by simpa using hs, by cases h; rfl⟩

/-! ### TIMER -/

/-- A boundary is ignored, or it activates the shadow registers and leaves the event pending, or it waits for XFER (R69). -/
theorem lineRate_eq_next {s s' : State} (h : lineRate s = .next s') :
    (s.serving = false ∧ s' = s) ∨
    (s.serving = true ∧ s.tickPending = false ∧ s.xfer = none ∧ s' = { s.activate with tickPending := true }) ∨
    (s.serving = true ∧ s.tickPending = false ∧ s.xfer ≠ none ∧ s' = s.waitFor .lineRate) := by
  unfold lineRate at h
  split at h
  · split at h
    · cases h
    · rename_i hs hp
      have hp : s.tickPending = false := by simpa using hp
      split at h
      · rename_i hx
        exact .inr (.inl ⟨hs, hp, by simpa using hx, by cases h; rfl⟩)
      · rename_i hx
        exact .inr (.inr ⟨hs, hp, by simpa using hx, by cases h; rfl⟩)
  · rename_i hs
    exact .inl ⟨by simpa using hs, by cases h; rfl⟩

/-- Counting the draw of a tick changes at most the count of draws. -/
theorem countTickDraw_eq (s : State) : s.countTickDraw = { s with draws := s.countTickDraw.draws } := by
  unfold State.countTickDraw
  split <;> rfl

theorem countTickDraw_of_period {s : State} (h : s.periodAct ≠ 0) : s.countTickDraw = s := by
  simp only [State.countTickDraw, if_neg h]

theorem periodEnds_of_period {s : State} (h : s.periodAct ≠ 0) : s.periodEnds = (s.tcnt + 1 == s.periodAct) := by
  simp only [State.periodEnds, if_neg h]

theorem nextCount_of_period {s : State} (h : s.periodAct ≠ 0) : s.nextCount = s.tcnt + 1 := by
  simp only [State.nextCount, if_neg h]

/-- A tick of the clock finds TIMER stopped, or completes the period, or waits for the pending service, or counts. -/
theorem clockTick_eq_next {s s' : State} (h : clockTick s = .next s') :
    (s.run = false ∧ s' = s) ∨
    (s.run = true ∧ s.periodEnds = true ∧ lineRate s.countTickDraw = .next s') ∨
    (s.run = true ∧ s.periodEnds = false ∧ s.armDue = true ∧ service { s with inbox := .clk :: s.inbox } = .next s') ∨
    (s.run = true ∧ s.periodEnds = false ∧ s.armDue = false ∧ s' = { s.countTickDraw with tcnt := s.nextCount }) := by
  unfold clockTick at h
  split at h
  · rename_i hr
    split at h
    · exact .inr (.inl ⟨hr, ‹_›, h⟩)
    · rename_i he
      have he : s.periodEnds = false := by simpa using he
      split at h
      · exact .inr (.inr (.inl ⟨hr, he, ‹_›, h⟩))
      · rename_i ha
        exact .inr (.inr (.inr ⟨hr, he, by simpa using ha, by cases h; rfl⟩))
  · rename_i hr
    exact .inl ⟨by simpa using hr, by cases h; rfl⟩

/-! ### Construction -/

/-- INIT goes through only on a stopped block, a standard 0 to 2 and a valid table, and constructs the context. -/
theorem construct_eq_next {std : Std} {s s' : State} (h : construct std s = .next s') :
    ∃ t w, s.run = false ∧ s.cfg.table std = some t ∧ t.firstFailure = none ∧ t.fetch 0 = some w ∧
      s' = s.construct std t w := by
  unfold construct at h
  split at h
  · cases h
  · rename_i hr
    split at h
    · cases h
    · rename_i t ht
      split at h
      · cases h
      · rename_i hf
        split at h
        · rename_i w hw
          exact ⟨t, w, by simpa using hr, ht, hf, hw, by cases h; rfl⟩
        · cases h

/-- No check fails exactly when every check passes. -/
theorem firstFailure_eq_none_iff (t : PulseTable) : t.firstFailure = none ↔ t.valid = true := by
  simp [PulseTable.firstFailure, PulseTable.valid, List.find?_eq_none, List.all_eq_true]

/-- A valid table passes each check of R123. -/
theorem valid_passes {t : PulseTable} (h : t.valid = true) (c : TableCheck) : t.passes c = true := by
  have h := List.all_eq_true.mp h
  cases c <;> exact h _ (by simp [tableChecks])

/-! ### The step -/

theorem step_nil {s : State} (h : s.inbox = []) : step s = idle s := by
  simp only [step, stepOnce, h]

theorem step_cons {s : State} {x : Stimulus} {rest : List Stimulus} (h : s.inbox = x :: rest) :
    step s = react x { s with inbox := rest } := by
  simp only [step, stepOnce, h]

end Sys2Proof.Machine
end

