-- ==== Sys2Proof/Laws/PerInstr.lean ====
section
/-! SUPPORT. Statements about every instruction as syntax, one lemma for each constructor. -/

namespace Sys2Proof.Laws.EncodedKind

/-- Whether the instruction is END. -/
def isEnd : Instr → Bool
  | .endMark _ => true
  | .pulse _ _ _ _ _ _ => false
  | .long2 _ => false
  | .short2 _ => false
  | .blank _ => false
  | .active _ => false
  | .short _ => false
  | .shorthalf _ _ => false
  | .init _ => false
  | .teardown => false
  | .rdreg _ => false
  | .rddiag => false
  | .hper => false
  | .syncw => false
  | .isact => false
  | .tick => false
  | .boundary => false
  | .arb => false
  | .step => false
  | .produce => false
  | .vblank => false
  | .reprog => false
  | .diag => false
  | .reserved => false

/-- The kind is in the word: a well-formed table word has duration 0 exactly when it is END (R93), and an operation word
has zero bits 7:4. -/
def Statement (i : Instr) : Prop :=
  i.wf = true →
    (i.format = .table → (descDuration i.word = 0 ↔ isEnd i = true)) ∧
    (i.format = .operation → i.word.extractLsb' 4 4 = 0#4)

theorem of_table {i : Instr} {n : Duration} {f : Byte} (he : encode i = (.table, descOfFlags n f)) (hn : n ≠ 0)
    (hi : isEnd i = false) : Statement i := by
  intro _
  simpa [Instr.format, Instr.word, he, hi] using hn

theorem of_operation {i : Instr} {k : BitVec 4} {b : Byte} (he : encode i = (.operation, opWord k b)) : Statement i := by
  intro _
  simp [Instr.format, Instr.word, he]

theorem endMark (low : Byte) : Statement (.endMark low) := by
  intro _
  simp [Instr.format, Instr.word, encode, isEnd]

theorem pulse (h s l a : Bool) (r : BitVec 4) (n : Duration) : Statement (.pulse h s l a r n) :=
  fun hw => of_table (i := .pulse h s l a r n) rfl (by simpa [Instr.wf] using hw) rfl hw

theorem long2 (n : Duration) : Statement (.long2 n) :=
  fun hw => of_table (i := .long2 n) rfl (by simpa [Instr.wf] using hw) rfl hw

theorem short2 (n : Duration) : Statement (.short2 n) :=
  fun hw => of_table (i := .short2 n) rfl (by simpa [Instr.wf] using hw) rfl hw

theorem blank (n : Duration) : Statement (.blank n) :=
  fun hw => of_table (i := .blank n) rfl (by simpa [Instr.wf] using hw) rfl hw

theorem active (n : Duration) : Statement (.active n) :=
  fun hw => of_table (i := .active n) rfl (by simpa [Instr.wf] using hw) rfl hw

theorem short (n : Duration) : Statement (.short n) :=
  fun hw => of_table (i := .short n) rfl (by simpa [Instr.wf] using hw) rfl hw

theorem shorthalf (shs : Bool) (n : Duration) : Statement (.shorthalf shs n) := by
  intro hw
  cases shs with
  | true => exact of_table (i := .shorthalf true n) rfl (by simpa [Instr.wf] using hw) rfl hw
  | false => exact of_table (i := .shorthalf false n) rfl (by simpa [Instr.wf] using hw) rfl hw

theorem init (s : Std) : Statement (.init s) := of_operation rfl
theorem teardown : Statement .teardown := of_operation rfl
theorem rdreg (n : Byte) : Statement (.rdreg n) := of_operation rfl
theorem rddiag : Statement .rddiag := of_operation rfl
theorem hper : Statement .hper := of_operation rfl
theorem syncw : Statement .syncw := of_operation rfl
theorem isact : Statement .isact := of_operation rfl
theorem tick : Statement .tick := of_operation rfl
theorem boundary : Statement .boundary := of_operation rfl
theorem arb : Statement .arb := of_operation rfl
theorem step : Statement .step := of_operation rfl
theorem produce : Statement .produce := of_operation rfl
theorem vblank : Statement .vblank := of_operation rfl
theorem reprog : Statement .reprog := of_operation rfl
theorem diag : Statement .diag := of_operation rfl
theorem reserved : Statement .reserved := of_operation rfl

end Sys2Proof.Laws.EncodedKind
end

