-- ==== Sys2Proof/Tests/Slice0.lean ====
section
/-! SUPPORT. Tests, with their expected results from spec/95_test_vectors.md and the numbered rules, and for every
statement with hypotheses a witness that meets them all. -/

namespace Sys2Proof.Tests

open Sys2Proof.Machine

/-! ### Helpers -/

/-- The constants of part 2.4 with the documented list of R127. -/
def documented : PulseTable := ⟨3072, 113, 226, 1310, documentedDescriptors true, 625⟩
/-- The table of program P2. -/
def tiny : PulseTable := ⟨1000, 40, 80, 400, [0x0104#16, 0x0100#16, 0x0308#16, 0x0100#16, 0x0000#16], 6⟩
/-- The table of program P3. -/
def odd : PulseTable := ⟨1001, 50, 100, 500, [0x0203#16, 0x0108#16, 0xFF00#16, 0x0208#16, 0x0000#16], 259⟩

/-- A stopped block with these three tables. -/
def stopped : State := { State.reset with cfg := ⟨documented, tiny, odd⟩ }

/-- A running block whose context is given, with periods and an armable latch. -/
def at_ (std : Std) (i : Index) (c : Duration) (w : DescWord) (l : LineCount) : State :=
  { stopped with
    ctrl := ctrlRunning std, pidx := i, pcnt := c, cpulse := w, line := l, periodSh := 1000, periodAct := 3, syncwSh := 80,
    syncwAct := 2, trigofsSh := 180, trigofsAct := 90, slHstart := 400, slLen := 41, slData := 0x20000100, slPclk := 1 }

/-- The tiny table's context right after INIT. -/
def tinyFirst : State := at_ 1 0 1 0x0104 0
/-- The tiny table one STEP before its active run. -/
def tinyBlank : State := at_ 1 1 1 0x0100 1
/-- The tiny table on the first unit of its active run. -/
def tinyActive : State := at_ 1 2 3 0x0308 0
/-- The tiny table on the last unit of its active run. -/
def tinyLast : State := at_ 1 2 1 0x0308 2
/-- The tiny table on its last entry, so that the next STEP wraps. -/
def tinyWrap : State := at_ 1 3 1 0x0100 0

/-- An answer that fills two bytes of the other buffer, the second while XFER reads on. -/
def answer : Answer := ⟨[.write 0x20000140 7, .xfer, .write 0x20000141 0], ⟨380, 33, 0x20000140, 2⟩⟩
/-- The borrow of part 2.8, seven bytes read. -/
def borrow : Borrow := ⟨0x20000100, 41, 1, 7⟩

/-- An answer that exists and has a property. -/
theorem exists_next {r : Result} {p : State → Bool} (h : (next? r).any p = true) : ∃ s, r = .next s ∧ p s = true := by
  cases r with
  | next s => exact ⟨s, rfl, h⟩
  | fault f => cases h
  | refused c => cases h

/-- The four registers of the context that a result answers. -/
def context (r : Result) : Option (Index × Duration × DescWord × LineCount) :=
  (next? r).map fun s => (s.pidx, s.pcnt, s.cpulse, s.line)

/-- The fault a result ends in. -/
def fault? (r : Result) : Option Fault :=
  match r with
  | .next _ => none
  | .fault f => some f
  | .refused _ => none

/-- The refusal a result ends in. -/
def refusal? (r : Result) : Option Refusal :=
  match r with
  | .next _ => none
  | .fault _ => none
  | .refused c => some c

/-! ### WellFormed: the ill-formed term of each check is refused (R91, R102) -/

theorem test_wf_pulse : (Instr.pulse true false true false 0 0).wf = false := by decide
theorem test_wf_long2 : (Instr.long2 0).wf = false := by decide
theorem test_wf_short2 : (Instr.short2 0).wf = false := by decide
theorem test_wf_blank : (Instr.blank 0).wf = false := by decide
theorem test_wf_active : (Instr.active 0).wf = false := by decide
theorem test_wf_short : (Instr.short 0).wf = false := by decide
theorem test_wf_shorthalf : (Instr.shorthalf true 0).wf = false ∧ (Instr.shorthalf false 0).wf = false := by decide

/-! ### Decoding: part 2.1, and the ids of R100 -/

theorem test_decode_end :
    decodeDescriptor 0x0000#16 = .endMark 0 ∧ decodeDescriptor 0x0008#16 = .endMark 0x08 ∧
      decodeDescriptor 0x00FF#16 = .endMark 0xFF := by decide
theorem test_decode_pulse :
    decodeDescriptor 0x0209#16 = .pulse true false false true 0 2 ∧
      decodeDescriptor 0x0106#16 = .pulse false true true false 0 1 ∧
      decodeDescriptor 0xFF0F#16 = .pulse true true true true 0 255 ∧
      decodeDescriptor 0x0104#16 = .pulse false false true false 0 1 ∧
      decodeDescriptor 0x0110#16 = .pulse false false false false 1 1 := by decide
theorem test_decode_long2 : decodeDescriptor 0x0505#16 = .long2 5 := by decide
theorem test_decode_short2 : decodeDescriptor 0x0503#16 = .short2 5 ∧ decodeDescriptor 0x0403#16 = .short2 4 := by decide
theorem test_decode_blank : decodeDescriptor 0x0100#16 = .blank 1 ∧ decodeDescriptor 0xFF00#16 = .blank 255 := by decide
theorem test_decode_active : decodeDescriptor 0xE608#16 = .active 230 := by decide
theorem test_decode_short : decodeDescriptor 0x0102#16 = .short 1 := by decide
/-- SHORTHALF 1 is 0x0101 with SHORT_HALF_S = 0; with SHORT_HALF_S = 1 its word is SHORT2's (log 10). -/
theorem test_decode_shorthalf :
    decodeDescriptor 0x0101#16 = .shorthalf false 1 ∧ decodeDescriptor 0x0103#16 = .short2 1 ∧
      (Instr.shorthalf true 1).word = 0x0103#16 := by decide

theorem test_decode_host :
    decodeOperation 0x0001#16 = .ok (.init 0) ∧ decodeOperation 0x0301#16 = .ok (.init 3) ∧
      decodeOperation 0x0002#16 = .ok .teardown ∧ decodeOperation 0x1803#16 = .ok (.rdreg 24) ∧
      decodeOperation 0x0004#16 = .ok .rddiag := by decide
theorem test_decode_derived :
    decodeOperation 0x0005#16 = .ok .hper ∧ decodeOperation 0x0006#16 = .ok .syncw ∧
      decodeOperation 0x0007#16 = .ok .isact := by decide
theorem test_decode_service :
    decodeOperation 0x0008#16 = .ok .tick ∧ decodeOperation 0x0009#16 = .ok .boundary ∧
      decodeOperation 0x000A#16 = .ok .arb ∧ decodeOperation 0x000B#16 = .ok .step ∧
      decodeOperation 0x000C#16 = .ok .produce ∧ decodeOperation 0x000D#16 = .ok .vblank ∧
      decodeOperation 0x000E#16 = .ok .reprog ∧ decodeOperation 0x000F#16 = .ok .diag := by decide
theorem test_decode_reserved : decodeOperation 0x0000#16 = .ok .reserved := by decide
/-- What the model's operation word does not allocate is refused by name (log 9). -/
theorem test_decode_refused :
    decodeOperation 0x0011#16 = .error .operationHighBits ∧ decodeOperation 0x0401#16 = .error .operandUnallocated ∧
      decodeOperation 0x0108#16 = .error .operandUnallocated ∧ decodeBytes .table [0x08] = .error .tooShort := by decide
/-- R101: HOST's port ignores an id that is no HOST command. -/
theorem test_decode_command :
    decodeCommand 0x0008#16 = .ok .reserved ∧ decodeCommand 0x0201#16 = .ok (.init 2) := by decide
/-- Part 2.1: 0xE608 is byte 0x08 and then byte 0xE6. -/
theorem test_byte_order :
    decodeBytes .table [0x08, 0xE6, 0x55] = .ok (.active 230, [0x55]) ∧ tiny.bytes.take 4 = [0x04, 0x01, 0x00, 0x01] := by decide
/-- The table's numbering: the 4-bit rows are operations, the 16-bit rows are words. -/
theorem test_table_word :
    decodeTableWord 8 0x8 = some .tick ∧ decodeTableWord 16 0xE608 = some (.active 230) ∧
      decodeTableWord 16 0x10000 = none := by decide

/-! ### Table validity: part 2.2 -/

theorem test_valid_tables : documented.valid = true ∧ tiny.valid = true ∧ odd.valid = true := by decide
theorem test_v1 : ({ tiny with desc := [0x0100, 0x0108], totalLines := 2 } : PulseTable).firstFailure = some .v1 ∧
    ({ tiny with desc := [0x0100, 0, 0x0108, 0], totalLines := 2 } : PulseTable).firstFailure = some .v1 := by decide
theorem test_v2 : ({ tiny with desc := [0], totalLines := 0 } : PulseTable).passes .v2 = false := by decide
theorem test_v3 : ({ documented with totalLines := 624 } : PulseTable).firstFailure = some .v3 := by decide
theorem test_v4 : ({ tiny with desc := [0x0106, 0x0108, 0], totalLines := 2 } : PulseTable).firstFailure = some .v4 := by
  decide
theorem test_v5 :
    ({ tiny with desc := List.replicate 256 0x0100 ++ [0] } : PulseTable).passes .v5 = false ∧
      ({ tiny with desc := List.replicate 255 0x0100 ++ [0] } : PulseTable).passes .v5 = true := by decide +kernel
theorem test_v6 : ({ tiny with desc := [0x0110, 0x0108, 0], totalLines := 2 } : PulseTable).firstFailure = some .v6 ∧
    ({ tiny with desc := [0x0100, 0x0108, 0x0008], totalLines := 2 } : PulseTable).firstFailure = some .v6 := by decide
theorem test_v7 : ({ tiny with desc := [0x0108, 0], totalLines := 1 } : PulseTable).firstFailure = some .v7 ∧
    ({ tiny with desc := [0x0100, 0], totalLines := 1 } : PulseTable).firstFailure = some .v7 := by decide

/-! ### STEP and the descriptors: part 2.3 -/

theorem test_step_plain : context (exec .step (at_ 0 0 5 0x0505 0)) = some (0, 4, 0x0505, 1) := by decide
theorem test_step_edges :
    context (exec .step (at_ 0 2 1 0x2E00 55)) = some (3, 230, 0xE608, 0) ∧
      context (exec .step (at_ 0 3 1 0xE608 229)) = some (4, 29, 0x1D00, 0) := by decide
theorem test_step_wraps :
    context (exec .step (at_ 0 13 1 0x0503 33)) = some (0, 5, 0x0505, 34) ∧
      context (exec .step (at_ 2 3 1 0x0208 1)) = some (0, 2, 0x0203, 0) := by decide
theorem test_pulse : context (exec (.pulse true true true true 0 255) (at_ 0 0 1 0x0505 4)) = some (1, 255, 0xFF0F, 0) := by
  decide
theorem test_end_ignores_its_flags : context (exec (.endMark 0x08) (at_ 0 13 1 0x0503 33)) = some (0, 5, 0x0505, 33) := by
  decide

/-! ### The derived values: part 2.4 -/

theorem test_hper :
    (next? (exec .hper (at_ 2 0 2 0x0203 0))).map (·.replies) = some [.hper 500] ∧
      (next? (exec .hper (at_ 0 3 1 0xE608 0))).map (·.replies) = some [.hper 3072] := by decide
theorem test_syncw :
    (next? (exec .syncw (at_ 0 0 1 0x0106 0))).map (·.replies) = some [.syncw 113] ∧
      (next? (exec .syncw (at_ 0 0 1 0x0104 0))).map (·.replies) = some [.syncw 1310] := by decide
theorem test_isact : (next? (exec .isact (at_ 0 0 1 0xFF0F 0))).map (·.replies) = some [.isact true] := by decide

/-! ### The line service: parts 2.5 to 2.8 -/

theorem test_boundary :
    (next? (exec .boundary tinyActive)).map (fun s => (s.periodAct, s.syncwAct, s.trigofsAct, s.periodSh)) =
      some (1000, 80, 180, 1000) := by decide
theorem test_arb_active :
    (next? (exec .arb (at_ 0 3 9 0xE608 1))).map (fun s => (s.trigEn, s.dmaAddr, s.dmaLen, s.dmaPclk, s.events)) =
      some (true, 0x20000100, 41, 1, [.arm 0x20000100 41 1]) := by decide
theorem test_arb_inactive :
    (next? (exec .arb { at_ 0 4 9 0x1D00 1 with dmaLen := 41, trigEn := true })).map (fun s => (s.trigEn, s.dmaLen, s.events)) =
      some (false, 41, [.disarm]) := by decide
/-- `65500 + 226 = 190` modulo `2^16`. -/
theorem test_reprog :
    (next? (exec .reprog { at_ 0 3 9 0xE608 1 with slHstart := 65500 })).map (fun s => (s.periodSh, s.syncwSh, s.trigofsSh)) =
      some (3072, 226, 190) := by decide
theorem test_produce :
    (next? (exec .produce { tinyActive with answers := [answer] })).any
      (fun s => decide (s = { tinyActive.latch answer.scanline with
        events := [.scanlineReq (ctxView tiny tinyActive)], buf := [(0x20000140, 7)] })) = true := by decide
theorem test_race :
    fault? (exec .produce
        { tinyActive with xfer := some borrow, answers := [⟨[.write 0x20000110 1], answer.scanline⟩] }) =
      some .bufferRace := by decide
theorem test_no_race_behind_the_reader :
    completes (exec .produce
        { tinyActive with xfer := some borrow, answers := [⟨[.write 0x20000103 1], answer.scanline⟩] }) = true := by
  decide
theorem test_vblank :
    (next? (exec .vblank tinyWrap)).map (·.events) =
      some [.vblank ⟨3, 1, 0x0100, 0, 1, 1000, 40, 80, 400⟩] := by decide
/-- Which counter DIAG leaves alone; the value in the other is a free one. -/
theorem test_diag :
    (next? (exec .diag { tinyActive with diagBlank := 5 })).map (·.diagBlank) = some 5 ∧
      (next? (exec .diag { tinyBlank with diagActive := 6 })).map (·.diagActive) = some 6 := by decide
/-- The service that prepares the first active line calls the producer and arms nothing yet. -/
theorem test_tick :
    (next? (exec .tick { tinyBlank with answers := [answer] })).any
      (fun s => s.pidx == 2 && s.line == 0 && !s.trigEn && s.periodSh == 1000 && s.trigofsSh == 460 && s.slLen == 33) =
        true := by decide
/-- The service after the last active line arms, signals VBLANK, and calls no producer. -/
theorem test_tick_vblank :
    (next? (exec .tick tinyLast)).map (fun s => s.events.map fun e => decide (∃ c ∈ [ctxView tiny s], e = .vblank c)) =
      some [false, true, false] := by decide

/-- R68: XFER reads between the parts of a service that prepares a blank line, as the queue of gaps says. -/
theorem test_transfer_overlaps_a_blank_service :
    (next? (exec .tick { tinyLast with overlap := [1, 2, 0, 3, 9] })).map (fun s => (s.xfer, s.overlap)) =
      some (some ⟨0x20000100, 41, 1, 6⟩, [9]) := by decide
/-- R69: with 40 of 41 bytes read the boundary waits for the last one, and the TICK at the head of the inbox comes after it. -/
theorem test_tick_waits_for_the_transfer :
    (next? (exec .tick { tinyLast with xfer := some { borrow with done := 40 } })).map
      (fun s => (s.xfer, s.inbox, s.periodAct)) = some (none, [.operation 0x0008], 3) := by decide
/-- R292: at the tick that would reach TRIGOFS_ACT the pending service comes first, also at an inactive line. -/
theorem test_arm_is_in_time :
    (next? (step { tinyWrap with
        tickPending := true, trigEn := true, trigofsAct := 2, periodAct := 5, tcnt := 1, inbox := [.clk] })).map
      (fun s => (s.trigEn, s.tcnt, s.tickPending, s.inbox)) = some (false, 1, false, [.clk]) := by decide
/-- R204, R205: an answer that keeps the contract at an odd line, and three that do not: its last byte, its parity, the
bytes being drained. -/
theorem test_producer_contract :
    let bufs : ScanBuffers := ⟨⟨0x20000100, 64⟩, ⟨0x20000140, 64⟩⟩
    let s : State := { tinyActive with line := 1, xfer := some borrow }
    let good : Answer := ⟨[.write 0x20000140 7, .write 0x20000160 0], ⟨380, 33, 0x20000140, 2⟩⟩
    producerContract bufs tiny s good = true ∧
      producerContract bufs tiny s { good with acts := [.write 0x20000160 1] } = false ∧
      producerContract bufs tiny { s with line := 2 } good = false ∧
      producerContract bufs tiny s { good with acts := [.write 0x20000110 1] } = false := by decide

/-! ### Host operations: part 2.7 -/

theorem test_init :
    (next? (exec (.init 0) stopped)).map (fun s => (s.ctrl, s.pcnt, s.cpulse, s.periodAct, s.syncwSh, s.trigofsAct)) =
      some (0x3, 5, 0x0505, 1536, 1310, 226) ∧
    (next? (exec (.init 2) stopped)).map (·.ctrl) = some 0xB := by decide
theorem test_init_refused :
    refusal? (exec (.init 3) stopped) = some .badStandard ∧ refusal? (exec (.init 3) tinyFirst) = some .initWhileRunning := by
  decide
theorem test_teardown : next? (exec .teardown tinyActive) = some stopped := by decide
theorem test_rdreg :
    (next? (exec (.rdreg 7) tinyFirst)).map (·.replies) = some [.reg 80] ∧
      (next? (exec (.rdreg 25) tinyFirst)).map (·.replies) = some [.reg 0] := by decide
theorem test_rddiag : (next? (exec .rddiag { tinyFirst with diagActive := 3, diagBlank := 4 })).map (·.replies) =
    some [.diag 3 4] := by decide
theorem test_reserved : next? (exec .reserved tinyActive) = some tinyActive := by decide
/-- The first instruction after reset is the one that stands in the inbox. -/
theorem test_placed_word_runs :
    (next? (step (State.reset.withFetchWord 8 0x4))).map (·.replies) = some [.diag 0 0] := by decide

/-! ### Witnesses: a state and operands that meet the hypotheses of each statement, clause by clause -/

theorem witness_DurationDecidesEndAndPulse :
    (0x00FF#16 &&& 0xFF00#16 = 0#16) ∧ (0x0100#16 &&& 0xFF00#16 ≠ 0#16) := by decide
theorem witness_EveryInstructionDecodesFromItsBytes :
    (Instr.pulse true false false true 15 255).wf = true ∧ (Instr.shorthalf true 1).wf = true ∧ (Instr.rdreg 255).wf = true := by
  decide
theorem witness_StepRunsTheDecodedInstruction :
    { stopped with inbox := [.descriptor 0x0505] }.inbox = .descriptor 0x0505#16 :: [] ∧
    decodeOperation 0x0008#16 = .ok .tick ∧ { stopped with inbox := [.operation 0x0008] }.inbox = .operation 0x0008#16 :: [] ∧
    decodeCommand 0x0201#16 = .ok (.init 2) ∧ { stopped with inbox := [.command 0x0201] }.inbox = .command 0x0201#16 :: [] ∧
    decodeOperation 0x0018#16 = .error .operationHighBits ∧
    { stopped with inbox := [.operation 0x0018] }.inbox = .operation 0x0018#16 :: [] ∧
    decodeCommand 0x0401#16 = .error .operandUnallocated ∧
    { stopped with inbox := [.command 0x0401] }.inbox = .command 0x0401#16 :: [] := by decide
theorem witness_PlacedWordRunsNext :
    decodeTableWord 8 0x0201 = some (.init 2) ∧ decodeTableWord 16 0xFF00 = some (.blank 255) := by decide
theorem witness_MachineRunsByItself :
    tinyActive.inbox = [] ∧ { tinyActive with tickPending := true }.tickPending = true ∧
    (tinyActive.tickPending = false ∧ tinyActive.run = true ∧ tinyActive.irqEn = true ∧ tinyActive.periodAct ≠ 0) ∧
    { tinyActive with tcnt := 1 }.tcnt + 1 ≠ tinyActive.periodAct ∧
    { tinyActive with tcnt := 2 }.tcnt + 1 = tinyActive.periodAct ∧ tinyActive.xfer = none ∧
    { tinyActive with tcnt := 2, xfer := some borrow }.xfer ≠ none ∧
    (stopped.inbox = [] ∧ stopped.tickPending = false ∧ stopped.run = false) := by decide
theorem witness_EndWrapsToTheFirstDescriptor : tinyWrap.table? = some tiny ∧ tiny.desc.head? = some 0x0104 := by decide
theorem witness_PulseBecomesCurrent : (1 : Duration) ≠ 0 ∧ (255 : Duration) ≠ 0 := by decide
theorem witness_NamedKindsBecomeCurrent : (1 : Duration) ≠ 0 ∧ (255 : Duration) ≠ 0 := by decide
theorem witness_StepCountsDown : tinyActive.pcnt ≠ 1 ∧ { tinyActive with pcnt := 2 }.pcnt ≠ 1 := by decide
theorem witness_StepAdvancesToTheNextDescriptor :
    tinyBlank.pcnt = 1 ∧ tinyBlank.table? = some tiny ∧ tiny.fetch (tinyBlank.pidx + 1) = some 0x0308 ∧
      (0x0308#16).extractLsb' 8 8 ≠ 0#8 := by decide
theorem witness_StepWrapsAtEnd :
    tinyWrap.pcnt = 1 ∧ tinyWrap.table? = some tiny ∧ tiny.fetch (tinyWrap.pidx + 1) = some 0x0000 ∧
      (0x0000#16).extractLsb' 8 8 = 0#8 ∧ tiny.desc.head? = some 0x0104 := by decide
theorem witness_StepRefusesPastTheTable :
    (at_ 1 4 1 0x0100 0).pcnt = 1 ∧ (at_ 1 4 1 0x0100 0).table? = some tiny ∧
      tiny.fetch ((at_ 1 4 1 0x0100 0).pidx + 1) = none := by decide
theorem witness_StepKeepsTheContextOnTheTable :
    tinyFirst.contextFits = true ∧ tinyActive.contextFits = true ∧ tinyWrap.contextFits = true := by decide
/-- An edge, no edge, and LINE one below its last value. -/
theorem witness_LineResetsExactlyAtEdges :
    (∃ s', exec .step tinyBlank = .next s' ∧ (s'.cpulse.getLsbD 3 != tinyBlank.cpulse.getLsbD 3) = true) ∧
    (∃ s', exec .step { tinyActive with line := 65534 } = .next s' ∧
      (s'.cpulse.getLsbD 3 == tinyActive.cpulse.getLsbD 3 && decide (65534 + 1 < 2 ^ Config.lineW)) = true) :=
  ⟨exists_next (by decide), exists_next (by decide)⟩
theorem witness_WalkReturnsAfterExactlyOneCycle :
    (tinyFirst.table? = some tiny ∧ tiny.valid = true ∧ tiny.desc.head? = some 0x0104 ∧ tinyFirst.pidx = 0 ∧
      tinyFirst.cpulse = 0x0104 ∧ tinyFirst.pcnt = (0x0104#16).extractLsb' 8 8) ∧
    (∃ s', walk 1 tinyFirst = .next s' ∧ decide (0 < 1 ∧ 1 < tiny.unitsPerCycle) = true) ∧
    (∃ s', walk 5 tinyFirst = .next s' ∧ decide (0 < 5 ∧ 5 < tiny.unitsPerCycle) = true) :=
  ⟨by decide, exists_next (by decide), exists_next (by decide)⟩
theorem witness_DescriptorsAreCurrentInTableOrder :
    (tinyFirst.table? = some tiny ∧ tiny.valid = true ∧ tiny.desc.head? = some 0x0104 ∧ tinyFirst.pidx = 0 ∧
      tinyFirst.cpulse = 0x0104 ∧ tinyFirst.pcnt = (0x0104#16).extractLsb' 8 8) ∧
    (∃ s', walk 0 tinyFirst = .next s' ∧ decide (0 < tiny.unitsPerCycle) = true) ∧
    (∃ s', walk 5 tinyFirst = .next s' ∧ decide (5 < tiny.unitsPerCycle) = true) :=
  ⟨by decide, exists_next (by decide), exists_next (by decide)⟩
theorem witness_HperReturnsThePeriod : tinyActive.table? = some tiny := by decide
theorem witness_SyncwReturnsTheWidth : tinyFirst.table? = some tiny := by decide
theorem witness_BoundaryActivatesTheShadows : tinyActive.xfer = none := by decide
/-- One byte left, and many; each of the two boundaries; no step of XFER and all of them. -/
theorem witness_BoundaryComesAfterTheTransfer :
    ∀ b ∈ [borrow, { borrow with done := 40 }],
      (let s := { tinyLast with xfer := some b, inbox := [.lineRate] }
       s.xfer = some b ∧ b.done < b.len.toNat ∧ s.run = true ∧ s.irqEn = true ∧ s.tickPending = false ∧
         s.inbox = .lineRate :: []) ∧
      { tinyLast with xfer := some b, inbox := [.operation 0x0008] }.inbox = .operation (Instr.tick.word) :: [] ∧
      b.done + 0 ≤ b.len.toNat ∧ b.done + (b.len.toNat - b.done) ≤ b.len.toNat := by decide
theorem witness_ArbArmsTheLatchedBuffer :
    let s := { tinyActive with slData := 0xFFFFFFFF, slLen := 1, slPclk := 2 }
    s.cpulse.getLsbD 3 = true ∧ s.slPclk ≠ 3 ∧ s.slData.toNat + s.slLen.toNat ≤ 2 ^ Config.addrW := by decide
theorem witness_ArbDisarmsAtAnInactiveLine : tinyBlank.cpulse.getLsbD 3 = false := by decide
theorem witness_ArbRefusesBadTransfers :
    tinyActive.cpulse.getLsbD 3 = true ∧ { tinyActive with slPclk := 3 }.slPclk = 3 ∧
    (let s := { tinyActive with slData := 0xFFFFFFFF, slLen := 2, slPclk := 2 }
     s.slPclk ≠ 3 ∧ 2 ^ Config.addrW < s.slData.toNat + s.slLen.toNat) := by decide
/-- The stores stand on both sides of the borrowed bytes; no store goes to the address 0. -/
theorem witness_ProduceLatchesTheAnswer :
    let a : Answer := ⟨[.write 0x20000129 9, .xfer, .write 0x200000FF 8], answer.scanline⟩
    let s := { tinyActive with answers := [a], xfer := some borrow }
    (s.table? = some tiny ∧ s.answers = a :: [] ∧ a.acts.all (avoids s.xfer) = true ∧ s.buf.wf = true) ∧
    (∀ (ad : Addr) (v : Byte), .write ad v ∈ a.acts → ad.toNat ≠ 0) ∧
    (a.acts = [.write 0x20000129 9, .xfer] ++ .write 0x200000FF 8 :: [] ∧
      ∀ u, CallAct.write 0x200000FF u ∉ ([] : List CallAct)) ∧
    (∀ b ∈ [borrow, { borrow with done := 40 }], { s with xfer := some b }.xfer = some b ∧ b.done < b.len.toNat ∧
      b.addr.toNat + b.len.toNat ≤ 2 ^ Config.addrW ∧ a.acts.all (avoids (some b)) = true) ∧
    CallAct.xfer ∉ [CallAct.write 0x20000129 9] ∧ { s with xfer := none }.xfer = none := by
  refine ⟨by decide, fun ad v h => ?_, ⟨by decide, fun u h => by cases h⟩, by decide, by decide, by decide⟩
  simp only [List.mem_cons, CallAct.write.injEq, List.not_mem_nil, or_false, reduceCtorEq, false_or] at h
  obtain ⟨rfl, _⟩ | ⟨rfl, _⟩ := h <;> decide
theorem witness_ProduceDrawsAFreeAnswer : tinyActive.table? = some tiny ∧ tinyActive.answers = [] := by decide
/-- The first and the last unread byte after two reads, and the bytes before and after them; the last byte after all reads. -/
theorem witness_RaceIsAStoreToAnUnreadByte :
    let s (k : Nat) (ad : Addr) : State :=
      { tinyActive with xfer := some borrow, answers := [⟨List.replicate k .xfer ++ [.write ad 1], answer.scanline⟩] }
    (s 2 0).table? = some tiny ∧ (s 2 0).xfer = some borrow ∧
    fault? (exec .produce (s 2 0x20000109)) = some .bufferRace ∧ fault? (exec .produce (s 2 0x20000128)) = some .bufferRace ∧
    fault? (exec .produce (s 2 0x20000108)) = none ∧ fault? (exec .produce (s 2 0x20000129)) = none ∧
    fault? (exec .produce (s 33 0x20000128)) = some .bufferRace ∧
    fault? (exec .produce (s 34 0x20000128)) = none := by decide
theorem witness_VblankOnlySignals : tinyWrap.table? = some tiny := by decide
theorem witness_ReprogLoadsTheShadows : tinyActive.table? = some tiny := by decide
theorem witness_DiagRecordsOneClass : tinyActive.cpulse.getLsbD 3 = true ∧ tinyBlank.cpulse.getLsbD 3 = false := by decide
theorem witness_TickRunsItsPartsInOrder :
    tinyActive.run = true ∧ tinyActive.irqEn = true ∧ tinyActive.tickPending = false ∧ tinyActive.xfer = none ∧
      tinyActive.overlap = [] ∧ { tinyActive with tickPending := true }.tickPending = true := by decide
theorem witness_TickIgnoredWhileStopped : stopped.run = false ∧ { tinyActive with ctrl := 0x5 }.irqEn = false := by decide
/-- An active line beginning, an active line prepared, neither, and a pending event. -/
theorem witness_TickCompletesOneService :
    let meets (s : State) : Prop :=
      s.consistent = true ∧ s.run = true ∧ transferFits s = true ∧ s.table? = some tiny ∧
      (s.isActive = true → latchFits s = true) ∧
      s.nextAnswer.acts.all (avoids (if s.isActive then borrowOf s.slData s.slLen s.slPclk else none)) = true
    meets { tinyActive with answers := [answer] } ∧ meets { tinyBlank with answers := [answer] } ∧ meets tinyWrap ∧
      meets { tinyActive with answers := [answer], tickPending := true, tcnt := 1 } ∧ tinyActive.tickPending = false := by
  decide
theorem witness_ServiceEmitsItsEventsInOrder :
    (tinyLast.run = true ∧ tinyLast.irqEn = true ∧ transferFits tinyLast = true ∧ tinyLast.table? = some tiny) ∧
    (∃ s', exec .tick tinyLast = .next s' ∧ (!s'.isActive && s'.line == 0) = true) ∧
    (∃ s', exec .tick { tinyBlank with answers := [answer] } = .next s' ∧ s'.isActive = true) :=
  ⟨by decide, exists_next (by decide), exists_next (by decide)⟩
theorem witness_ServiceChangesOnlyItsRegisters :
    transferFits tinyLast = true ∧ transferFits { tinyBlank with answers := [answer] } = true ∧
    (∃ s', exec .tick tinyLast = .next s' ∧ (tinyLast.isActive && !s'.isActive) = true) ∧
    (∃ s', exec .tick { tinyBlank with answers := [answer] } = .next s' ∧ (!tinyBlank.isActive && s'.isActive) = true) :=
  ⟨by decide, by decide, exists_next (by decide), exists_next (by decide)⟩

/-- Two services, the second from the state the first answers and `k` steps of XFER, which have finished the transfer. -/
theorem exists_two {r : Result} {p : State → Bool} (k : Nat)
    (h : (next? r).any
      (fun s1 => p s1 && transferFits (xferSteps k s1) && completes (exec .tick (xferSteps k s1))) = true) :
    ∃ s1 s2, r = .next s1 ∧ p s1 = true ∧ transferFits (xferSteps k s1) = true ∧ exec .tick (xferSteps k s1) = .next s2 := by
  obtain ⟨s1, h1, h⟩ := exists_next h
  simp only [Bool.and_eq_true] at h
  cases h2 : exec .tick (xferSteps k s1) with
  | next s2 => exact ⟨s1, s2, h1, h.1.1, h.1.2, h2⟩
  | fault f => rw [h2] at h; exact absurd h.2 (by simp [completes])
  | refused c => rw [h2] at h; exact absurd h.2 (by simp [completes])

/-- The first service arms a transfer of 41 bytes. -/
theorem witness_ShadowsGovernTheNextPeriod :
    (tinyLast.run = true ∧ tinyLast.irqEn = true ∧ transferFits tinyLast = true ∧ tinyLast.tickPending = false) ∧
    (∃ s1 s2, exec .tick tinyLast = .next s1 ∧ (s1.periodSh != 0 && s1.xfer.isSome) = true ∧
      transferFits (xferSteps 41 s1) = true ∧ exec .tick (xferSteps 41 s1) = .next s2) :=
  ⟨by decide, exists_two 41 (by decide)⟩
theorem witness_OneAnswerGovernsOneLine :
    let s := { tinyBlank with answers := [answer, ⟨[], answer.scanline⟩] }
    (s.run = true ∧ s.irqEn = true ∧ transferFits s = true ∧ s.table? = some tiny ∧
      s.answers = answer :: [⟨[], answer.scanline⟩]) ∧
    (∃ s1 s2, exec .tick s = .next s1 ∧ s1.isActive = true ∧ transferFits (xferSteps 0 s1) = true ∧
      exec .tick (xferSteps 0 s1) = .next s2) :=
  ⟨by decide, exists_two 0 (by decide)⟩
theorem witness_VblankExactlyAtActiveToBlankEdges :
    (tinyLast.run = true ∧ tinyLast.irqEn = true ∧ transferFits tinyLast = true ∧ { tinyActive with line := 65534 }.line.toNat + 1 < 2 ^ Config.lineW) ∧
    (∃ s', exec .tick tinyLast = .next s' ∧ (tinyLast.isActive && !s'.isActive) = true) ∧
    (∃ s', exec .tick { tinyActive with answers := [answer], line := 65534 } = .next s' ∧ s'.isActive = true) :=
  ⟨by decide, exists_next (by decide), exists_next (by decide)⟩
theorem witness_InitConstructsTheContext :
    stopped.run = false ∧ stopped.cfg.table 1 = some tiny ∧ tiny.valid = true ∧ tiny.desc.head? = some 0x0104 := by decide
theorem witness_RefusalsComeInOrderFromAClosedList :
    tinyFirst.run = true ∧ stopped.run = false ∧
    (let bad : PulseTable := { tiny with totalLines := 7 }
     { stopped with cfg := ⟨bad, bad, bad⟩ }.run = false ∧
       { stopped with cfg := ⟨bad, bad, bad⟩ }.cfg.table 2 = some bad ∧ bad.valid = false) ∧
    (∀ p ∈ [({ stopped with inbox := [.command 0x0301] }, Refusal.badStandard),
        ({ tinyFirst with inbox := [.command 0x0001] }, .initWhileRunning),
        ({ tinyActive with slPclk := 3, inbox := [.operation 0x0008] }, .badPixelClock)],
      p.1.consistent = true ∧ refusal? (step p.1) = some p.2) := by decide
theorem witness_TeardownReturnsToReset : tinyActive.run = true ∧ stopped.run = false := by decide
theorem witness_InitAfterTeardownIsAsTheFirst :
    tinyActive.run = true ∧ ∃ s1, exec .teardown tinyActive = .next s1 ∧ (!s1.run) = true :=
  ⟨by decide, exists_next (by decide)⟩
theorem witness_RdregReturnsTheNumberedRegister :
    stopped.run = false ∧ tinyActive.run = true ∧ tinyActive.table? = some tiny := by decide
theorem witness_OtherCommandsAreIgnored :
    (0x0500#16).extractLsb' 0 4 = 0#4 ∧ 5#4 ≤ (0xFF05#16).extractLsb' 0 4 ∧ 5#4 ≤ (0x000F#16).extractLsb' 0 4 ∧
      { tinyActive with inbox := [.command 0xFF05] }.inbox = .command 0xFF05#16 :: [] := by decide
theorem witness_SecondBoundaryIsAnOverrun :
    (let s := { tinyActive with inbox := [.lineRate] }
     s.run = true ∧ s.irqEn = true ∧ s.inbox = .lineRate :: [] ∧ s.tickPending = false ∧ s.xfer = none) ∧
    (let s := { tinyActive with inbox := [.lineRate], tickPending := true }
     s.run = true ∧ s.irqEn = true ∧ s.inbox = .lineRate :: [] ∧ s.tickPending = true) := by decide
/-- One tick short of the period, and the whole of it; the trigger offset 2 within it. -/
theorem witness_PeriodLastsPeriodActTicks :
    let s (k : Nat) : State := { tinyActive with inbox := List.replicate k .clk, trigEn := true, trigofsAct := 2 }
    (∀ k ∈ [0, 2, 3], (s k).run = true ∧ (s k).irqEn = true ∧ (s k).tickPending = false ∧ (s k).xfer = none ∧
      (s k).tcnt = 0 ∧ (s k).inbox = List.replicate k .clk ++ []) ∧
    2 < tinyActive.periodAct.toNat ∧ 3 = tinyActive.periodAct.toNat ∧
    (next? (stepTimes 1 (s 1))).map triggerFires = some false ∧
    (next? (stepTimes 2 (s 2))).map triggerFires = some true := by decide
/-- The last tick with the pulse asserted, and the first with it released. -/
theorem witness_SyncPulseLastsSyncwActTicks :
    let s (k : Nat) : State := { tinyActive with inbox := List.replicate k .clk }
    (∀ k ∈ [1, 2], (s k).run = true ∧ (s k).tcnt = 0 ∧ (s k).syncwAct < (s k).periodAct ∧ k < (s k).periodAct.toNat ∧
      (s k).tickPending = false ∧ (s k).inbox = List.replicate k .clk ++ []) ∧
    (2 < { tinyActive with tickPending := true }.trigofsAct.toNat) ∧
    1 < tinyActive.syncwAct.toNat ∧ ¬ 2 < tinyActive.syncwAct.toNat := by decide
theorem witness_XferSendsTheNextByte :
    { tinyActive with inbox := [.xfer] }.inbox = .xfer :: [] ∧ tinyActive.xfer = none ∧
    (∀ b ∈ [borrow, { borrow with done := 40 }],
      { tinyActive with xfer := some b }.xfer = some b ∧ b.done < b.len.toNat) := by decide
theorem witness_ResetInputClearsEveryRegister : { tinyActive with inbox := [.rst] }.inbox = .rst :: [] := by decide
/-- A HOST command, a service, and a boundary while a transfer is in flight. -/
theorem witness_EveryStepKeepsConsistency :
    (∀ s ∈ [{ stopped with inbox := [.command 0x0101] }, { tinyActive with inbox := [.operation 0x0008] },
      { tinyActive with xfer := some borrow, inbox := [.lineRate] },
      { tinyActive with tickPending := true, tcnt := 1, inbox := [.clk] }],
      s.consistent = true ∧ completes (step s) = true) := by decide
theorem witness_TablesAreNeverWritten :
    ∃ s', step { stopped with inbox := [.command 0x0101] } = .next s' ∧ s'.run = true := exists_next (by decide)
/-- An instruction that stores nothing; and a service whose call stores, at an address it does not store to. -/
theorem witness_OnlyProducerWritesBuf :
    (∃ s', exec .arb tinyActive = .next s' ∧ decide (Instr.arb ≠ .produce ∧ Instr.arb ≠ .tick) = true) ∧
    (let s := { tinyBlank with answers := [answer] }
     (∃ s', exec .tick s = .next s' ∧ (s'.buf != s.buf) = true) ∧ s.buf.wf = true ∧
       ∀ (ad : Addr) (v : Byte), .write ad v ∈ s.nextAnswer.acts → ad.toNat ≠ 0x20000142) := by
  refine ⟨exists_next (by decide), exists_next (by decide), by decide, fun ad v h => ?_⟩
  have h : CallAct.write ad v ∈ [.write 0x20000140 7, .xfer, .write 0x20000141 0] := h
  simp only [List.mem_cons, CallAct.write.injEq, List.not_mem_nil, or_false, reduceCtorEq, false_or] at h
  obtain ⟨rfl, _⟩ | ⟨rfl, _⟩ := h <;> decide
theorem witness_DiagnosticsHaveNoInfluence :
    ∀ i ∈ [Instr.tick, .rdreg 22, .rdreg 25], i ≠ .rddiag ∧ i ≠ .rdreg 23 ∧ i ≠ .rdreg 24 := by decide

end Sys2Proof.Tests
end

section
/-! PROOF. Pixel bytes have no influence (R6, R38). An operation respects a view of the state when its answer, seen
through the view, depends on what the view shows alone; the operations are built with a few connectives that keep
this, so that only XFER's step, which reads BUF, needs an argument of its own. -/

namespace Sys2Proof.Machine

/-! ### Operations that respect a view -/

/-- Seen through the view, the answer of the operation is the one it gives to the view of the state. -/
def Respects (view : State → State) (op : State → Result) : Prop :=
  ∀ s, mapNext view (op (view s)) = mapNext view (op s)

section
variable {view : State → State}

/-- States that look the same get answers that look the same. -/
theorem Respects.congr {op : State → Result} (h : Respects view op) {s u : State} (hv : view s = view u) :
    mapNext view (op s) = mapNext view (op u) := by
  rw [← h s, ← h u, hv]

theorem respects_next {f : State → State} (hf : ∀ s, view (f (view s)) = view (f s)) :
    Respects view fun s => .next (f s) :=
  fun s => congrArg Host.Outcome.next (hf s)

theorem respects_fault (e : Fault) : Respects view fun _ => .fault e := fun _ => rfl

theorem respects_refused (c : Refusal) : Respects view fun _ => .refused c := fun _ => rfl

theorem Respects.ite {c : State → Prop} [DecidablePred c] {op op' : State → Result} (hc : ∀ s, c (view s) = c s)
    (h : Respects view op) (h' : Respects view op') : Respects view fun s => if c s then op s else op' s := by
  intro s
  simp only [hc]
  split
  · exact h s
  · exact h' s

/-- An operation that respects the view needs, of the answer before it, only what the view shows. -/
theorem mapNext_andThen {k : State → Result} (hk : Respects view k) (r : Result) :
    mapNext view (andThen r k) = mapNext view (andThen (mapNext view r) k) := by
  cases r with
  | next s => exact (hk s).symm
  | fault e => rfl
  | refused c => rfl

theorem Respects.andThen {op k : State → Result} (h : Respects view op) (hk : Respects view k) :
    Respects view fun s => andThen (op s) k := by
  intro s
  rw [mapNext_andThen hk, h s, ← mapNext_andThen hk]

theorem Respects.comp {op : State → Result} {f : State → State} (h : Respects view op)
    (hf : ∀ s, view (f (view s)) = view (f s)) : Respects view fun s => op (f s) :=
  fun s => h.congr (hf s)

theorem Respects.withTable {k : PulseTable → State → Result} (ht : ∀ s, (view s).table? = s.table?)
    (hk : ∀ t, Respects view (k t)) : Respects view fun s => withTable s fun t => k t s := by
  intro s
  simp only [Machine.withTable, ht]
  cases s.table? with
  | none => rfl
  | some t => exact hk t s

end

/-! ### What the view that hides pixels shows -/

@[simp] theorem hidePixels_run (s : State) : (hidePixels s).run = s.run := rfl
@[simp] theorem hidePixels_isActive (s : State) : (hidePixels s).isActive = s.isActive := rfl
@[simp] theorem hidePixels_tickPending (s : State) : (hidePixels s).tickPending = s.tickPending := rfl
@[simp] theorem hidePixels_xfer (s : State) : (hidePixels s).xfer = s.xfer := rfl
@[simp] theorem hidePixels_cfg (s : State) : (hidePixels s).cfg = s.cfg := rfl
@[simp] theorem hidePixels_table? (s : State) : (hidePixels s).table? = s.table? := rfl
@[simp] theorem hidePixels_readReg (s : State) (n : Byte) : (hidePixels s).readReg n = s.readReg n := rfl
@[simp] theorem hidePixels_answers (s : State) : (hidePixels s).answers = s.answers := rfl
@[simp] theorem hidePixels_overlap (s : State) : (hidePixels s).overlap = s.overlap := rfl

/-! ### XFER, which reads BUF -/

/-- Whether XFER sends a byte, and what is left of its borrow, does not depend on the byte. -/
theorem hidePixels_xferStep (s : State) : hidePixels (xferStep (hidePixels s)) = hidePixels (xferStep s) := by
  unfold xferStep
  rw [hidePixels_xfer]
  cases s.xfer with
  | none => rfl
  | some b => dsimp only; split <;> rfl

theorem hidePixels_xferSteps (k : Nat) (s : State) :
    hidePixels (xferSteps k (hidePixels s)) = hidePixels (xferSteps k s) := by
  induction k generalizing s with
  | zero => rfl
  | succ k ih =>
    calc hidePixels (xferSteps k (xferStep (hidePixels s)))
      _ = hidePixels (xferSteps k (hidePixels (xferStep (hidePixels s)))) := (ih _).symm
      _ = hidePixels (xferSteps k (hidePixels (xferStep s))) := by rw [hidePixels_xferStep]
      _ = hidePixels (xferSteps k (xferStep s)) := ih _

theorem hidePixels_xferMeanwhile (s : State) :
    hidePixels (xferMeanwhile (hidePixels s)) = hidePixels (xferMeanwhile s) := by
  unfold xferMeanwhile
  rw [hidePixels_overlap]
  cases s.overlap with
  | nil => rfl
  | cons k rest => exact hidePixels_xferSteps k { s with overlap := rest }

theorem hidePixels_waitFor (x : Stimulus) (s : State) :
    hidePixels ((hidePixels s).waitFor x) = hidePixels (s.waitFor x) :=
  congrArg (fun u => { u with inbox := x :: s.inbox }) (hidePixels_xferStep s)

/-! ### A call of `on_scanline` -/

/-- A store races with an unread byte by its address, whatever the bytes. -/
theorem respects_producerWrite (a : Addr) (v : Byte) : Respects hidePixels (producerWrite a v) :=
  .ite (fun _ => rfl) (respects_fault .bufferRace) (respects_next fun _ => rfl)

theorem respects_callActs (xs : List CallAct) : Respects hidePixels (callActs xs) := by
  induction xs with
  | nil => exact respects_next fun _ => rfl
  | cons x xs ih =>
    cases x with
    | write a v => exact (respects_producerWrite a v).andThen ih
    | xfer => exact ih.comp hidePixels_xferStep

/-! ### The sequencer -/

theorem respects_wrap : Respects hidePixels wrap := by
  refine .withTable hidePixels_table? fun t => ?_
  cases t.fetch 0 with
  | none => exact fun _ => rfl
  | some w => exact respects_next fun _ => rfl

theorem respects_acceptDescriptor (w : DescWord) : Respects hidePixels (acceptDescriptor w) :=
  .ite (fun _ => rfl) respects_wrap (respects_next fun _ => rfl)

theorem respects_advance : Respects hidePixels advance := by
  refine .ite (fun _ => rfl) (respects_next fun _ => rfl) (.withTable hidePixels_table? fun t s => ?_)
  have hpidx : (hidePixels s).countDown.pidx = s.countDown.pidx := rfl
  rw [hpidx]
  cases t.fetch (s.countDown.pidx + 1) with
  | none => rfl
  | some w => exact (respects_acceptDescriptor w) s.countDown

/-! ### The parts of the service -/

theorem respects_boundary : Respects hidePixels fun s => .next (boundary s) := by
  refine respects_next fun s => ?_
  unfold boundary
  rw [hidePixels_xfer]
  split
  · rfl
  · exact hidePixels_waitFor _ s

theorem respects_arbitrate : Respects hidePixels arbitrate :=
  .ite (fun _ => rfl)
    (.ite (fun _ => rfl) (respects_refused .badPixelClock)
      (.ite (fun _ => rfl) (respects_refused .bufferWraps) (respects_next fun _ => rfl)))
    (respects_next fun _ => rfl)

theorem hidePixels_takeAnswer (s : State) : hidePixels (hidePixels s).takeAnswer = hidePixels s.takeAnswer := by
  unfold State.takeAnswer
  rw [hidePixels_answers]
  split <;> rfl

/-- The call of `on_scanline` with the answer `a`: the request, what happens during the call, the latch. -/
theorem respects_callOnScanline (t : PulseTable) (a : Answer) :
    Respects hidePixels fun s =>
      andThen (callActs a.acts (s.emit (.scanlineReq (ctxView t s))).takeAnswer) fun s' =>
        .next (s'.latch a.scanline) :=
  ((respects_callActs a.acts).comp fun s =>
    hidePixels_takeAnswer (s.emit (.scanlineReq (ctxView t s)))).andThen (respects_next fun _ => rfl)

theorem respects_produce : Respects hidePixels produce :=
  .withTable hidePixels_table? fun t s => respects_callOnScanline t s.nextAnswer s

theorem respects_vblank : Respects hidePixels vblank :=
  .withTable hidePixels_table? fun _ => respects_next fun _ => rfl

theorem respects_dispatch : Respects hidePixels dispatch :=
  .ite (fun _ => rfl) respects_produce (.ite (fun _ => rfl) respects_vblank (respects_next fun _ => rfl))

theorem respects_reprogram : Respects hidePixels reprogram :=
  .withTable hidePixels_table? fun _ => respects_next fun _ => rfl

theorem hidePixels_record (s : State) : hidePixels (hidePixels s).record = hidePixels s.record := by
  unfold State.record
  rw [hidePixels_isActive]
  split <;> rfl

theorem hidePixels_enterService (s : State) :
    hidePixels (enterService (hidePixels s)) = hidePixels (enterService s) := by
  unfold enterService
  rw [hidePixels_tickPending]
  split <;> rfl

/-- Each part of the service respects the view, and so do XFER's steps in the gaps between them. -/
theorem respects_serviceBody : Respects hidePixels serviceBody :=
  have hdiag : Respects hidePixels fun s => .next (leaveService s.record) := respects_next hidePixels_record
  respects_arbitrate.andThen <| (respects_advance.comp hidePixels_xferMeanwhile).andThen <|
    (respects_dispatch.comp hidePixels_xferMeanwhile).andThen <|
      (respects_reprogram.comp hidePixels_xferMeanwhile).andThen <| hdiag.comp hidePixels_xferMeanwhile

theorem respects_service : Respects hidePixels service :=
  .ite (fun _ => rfl)
    (.ite (fun _ => rfl) (respects_serviceBody.comp hidePixels_enterService) (respects_next (hidePixels_waitFor _)))
    (respects_next fun _ => rfl)

/-! ### HOST's operations -/

theorem respects_construct (std : Std) : Respects hidePixels (construct std) := by
  refine .ite (fun _ => rfl) (respects_refused .initWhileRunning) fun s => ?_
  rw [hidePixels_cfg]
  cases s.cfg.table std with
  | none => rfl
  | some t =>
    dsimp only
    cases t.firstFailure with
    | some c => rfl
    | none => cases t.fetch 0 <;> rfl

theorem respects_teardown : Respects hidePixels fun s => .next (teardown s) := by
  refine respects_next fun s => ?_
  unfold teardown
  rw [hidePixels_run]
  split <;> rfl

theorem respects_execRdreg (n : Byte) : Respects hidePixels (execRdreg n) := by
  intro s
  unfold execRdreg
  rw [hidePixels_readReg]
  cases s.readReg n <;> rfl

/-! ### Every instruction -/

/-- END is a wrap, every other descriptor is accepted as its word, and an operation is the shared operation it names. -/
theorem respects_exec (i : Instr) : Respects hidePixels (exec i) := by
  cases i with
  | endMark low => exact respects_wrap
  | pulse h sh l a r n => exact respects_acceptDescriptor (descWord h sh l a r n)
  | long2 n => exact respects_acceptDescriptor (descWord true false true false 0 n)
  | short2 n => exact respects_acceptDescriptor (descWord true true false false 0 n)
  | blank n => exact respects_acceptDescriptor (descWord false false false false 0 n)
  | active n => exact respects_acceptDescriptor (descWord false false false true 0 n)
  | short n => exact respects_acceptDescriptor (descWord false true false false 0 n)
  | shorthalf shs n => exact respects_acceptDescriptor (descWord true shs false false 0 n)
  | init std => exact respects_construct std
  | teardown => exact respects_teardown
  | rdreg n => exact respects_execRdreg n
  | rddiag => exact respects_next fun _ => rfl
  | hper => exact .withTable hidePixels_table? fun _ => respects_next fun _ => rfl
  | syncw => exact .withTable hidePixels_table? fun _ => respects_next fun _ => rfl
  | isact => exact respects_next fun _ => rfl
  | tick => exact respects_service
  | boundary => exact respects_boundary
  | arb => exact respects_arbitrate
  | step => exact respects_advance
  | produce => exact respects_produce
  | vblank => exact respects_vblank
  | reprog => exact respects_reprogram
  | diag => exact respects_next hidePixels_record
  | reserved => exact respects_next fun _ => rfl

/-- Settles O60: two contents of BUF are one state to the view, and every instruction respects it. -/
theorem pixelBytesHaveNoInfluence : Obligations.PixelBytesHaveNoInfluence :=
  fun i _ _ => (respects_exec i).congr rfl

end Sys2Proof.Machine
end

section
/-! PROOF. Every step keeps a consistent state consistent (R21 to R23, R43, R66, R69, R145, R280, R292). The parts of a
line service keep a stronger invariant, and every other step is one of a few updates of a consistent state. -/

namespace Sys2Proof.Machine

/-! ### The invariant, taken apart -/

/-- `State.consistent` with a name for each clause. -/
structure Consistent (s : State) : Prop where
  buf : s.buf.wf = true
  borrow : s.xfer.all borrowFits = true
  pending : s.pendingFits = true
  running : s.run = true → s.irqEn = true ∧ s.contextFits = true
  stopped : s.run = false → s = s.clear
  inbox : s.inbox.all realStimulus = true

theorem consistent_iff (s : State) : s.consistent = true ↔ Consistent s := by
  have hparts : s.consistent = true ↔ (s.buf.wf = true ∧ s.xfer.all borrowFits = true ∧ s.pendingFits = true ∧
      (if s.run then s.irqEn && s.contextFits else decide (s = s.clear)) = true ∧ s.inbox.all realStimulus = true) := by
    simp only [State.consistent, Bool.and_eq_true, and_assoc]
  rw [hparts]
  cases hr : s.run with
  | true =>
    simp only [if_true, Bool.and_eq_true]
    exact ⟨fun ⟨hb, hx, hp, hc, hi⟩ => ⟨hb, hx, hp, fun _ => hc, (fun h => nomatch hr.symm.trans h), hi⟩,
      fun h => ⟨h.buf, h.borrow, h.pending, h.running hr, h.inbox⟩⟩
  | false =>
    simp only [Bool.false_eq_true, if_false, decide_eq_true_eq]
    exact ⟨fun ⟨hb, hx, hp, hc, hi⟩ => ⟨hb, hx, hp, (fun h => nomatch hr.symm.trans h), fun _ => hc, hi⟩,
      fun h => ⟨h.buf, h.borrow, h.pending, h.stopped hr, h.inbox⟩⟩

/-- What every part of a line service keeps: a running block whose event has been taken. -/
structure InService (s : State) : Prop where
  buf : s.buf.wf = true
  borrow : s.xfer.all borrowFits = true
  taken : s.tickPending = false
  run : s.run = true
  irqEn : s.irqEn = true
  context : s.contextFits = true
  inbox : s.inbox.all realStimulus = true

theorem pendingFits_of_taken {s : State} (h : s.tickPending = false) : s.pendingFits = true := by
  simp [State.pendingFits, h]

theorem InService.consistent {s : State} (h : InService s) : Consistent s where
  buf := h.buf
  borrow := h.borrow
  pending := pendingFits_of_taken h.taken
  running _ := ⟨h.irqEn, h.context⟩
  stopped hr := nomatch h.run.symm.trans hr
  inbox := h.inbox

/-- While an event is pending no borrow is present. -/
theorem Consistent.xfer_of_pending {s : State} (h : Consistent s) (hp : s.tickPending = true) : s.xfer = none := by
  have hfits := h.pending
  simp only [State.pendingFits, hp, Bool.not_true, Bool.false_or, Bool.and_eq_true] at hfits
  exact Option.isNone_iff_eq_none.mp hfits.1

/-- While RUN is 0 no borrow is present. -/
theorem Consistent.xfer_of_stopped {s : State} (h : Consistent s) (hr : s.run = false) : s.xfer = none := by
  rw [h.stopped hr]
  rfl

/-! ### The context on a valid table -/

theorem contextFits_iff (s : State) :
    s.contextFits = true ↔
      ∃ t, s.table? = some t ∧ t.valid = true ∧ s.pidx.toNat + 1 < t.desc.length ∧ t.fetch s.pidx = some s.cpulse ∧
        1 ≤ s.pcnt.toNat ∧ s.pcnt.toNat ≤ (descDuration s.cpulse).toNat := by
  unfold State.contextFits
  cases s.table? with
  | none => simp
  | some t => simp [and_assoc]

/-- V1: the last entry has duration 0. -/
theorem descDuration_of_last {t : PulseTable} (hv : t.valid = true) {w : DescWord} (hw : t.desc.getLast? = some w) :
    descDuration w = 0 := by
  have h1 := valid_passes hv .v1
  simp only [PulseTable.passes, hw, Option.any_some, Bool.and_eq_true, beq_iff_eq] at h1
  exact h1.1

/-- V1: every entry before the last has a duration. -/
theorem descDuration_ne_zero {t : PulseTable} (hv : t.valid = true) {i : Index} {w : DescWord}
    (hi : i.toNat + 1 < t.desc.length) (hw : t.fetch i = some w) : descDuration w ≠ 0 := by
  have h1 := valid_passes hv .v1
  simp only [PulseTable.passes, Bool.and_eq_true, List.all_eq_true, bne_iff_ne] at h1
  refine h1.2 w (List.mem_of_getElem? (i := i.toNat) ?_)
  rw [PulseTable.pulses, List.getElem?_dropLast, if_pos (by omega)]
  exact hw

/-- V1: an entry with a duration is not the last. -/
theorem fetch_before_last {t : PulseTable} (hv : t.valid = true) {i : Index} {w : DescWord} (hw : t.fetch i = some w)
    (hd : descDuration w ≠ 0) : i.toNat + 1 < t.desc.length := by
  have hlt : i.toNat < t.desc.length := (List.getElem?_eq_some_iff.mp hw).1
  by_contra hge
  have hlast : t.desc.length - 1 = i.toNat := by omega
  exact hd (descDuration_of_last hv (by rw [List.getLast?_eq_getElem?, hlast]; exact hw))

/-- V2: the first entry has a duration. -/
theorem descDuration_of_first {t : PulseTable} (hv : t.valid = true) {w : DescWord} (hw : t.fetch 0 = some w) :
    descDuration w ≠ 0 := by
  have h2 : 2 ≤ t.desc.length := by simpa [PulseTable.passes] using valid_passes hv .v2
  exact descDuration_ne_zero hv (i := 0) h2 hw

/-- A context that has just entered a descriptor of a valid table is on the table. -/
theorem contextFits_of_entry {s : State} {t : PulseTable} (ht : s.table? = some t) (hv : t.valid = true)
    (hw : t.fetch s.pidx = some s.cpulse) (hd : descDuration s.cpulse ≠ 0) (hc : s.pcnt = descDuration s.cpulse) :
    s.contextFits = true := by
  have hpos : 1 ≤ (descDuration s.cpulse).toNat :=
    Nat.one_le_iff_ne_zero.mpr fun h => hd (BitVec.eq_of_toNat_eq h)
  exact (contextFits_iff s).mpr ⟨t, ht, hv, fetch_before_last hv hw hd, hw, hc ▸ hpos, (congrArg BitVec.toNat hc).le⟩

/-- STEP keeps the context on the table, whichever of its three ways it goes (R145). -/
theorem contextFits_advance {s s' : State} (h : advance s = .next s') (hc : s.contextFits = true) :
    s'.contextFits = true := by
  obtain ⟨t, ht, hv, hi, hw, hlo, hhi⟩ := (contextFits_iff s).mp hc
  obtain ⟨hne, rfl⟩ | ⟨t', w, _, ht', hw', hd, rfl⟩ | ⟨t', _, w0, _, ht', _, _, hw0, rfl⟩ := advance_eq_next h
  case inl =>
    have hcount : (s.pcnt - 1).toNat = s.pcnt.toNat - 1 := BitVec.toNat_sub_of_le hlo
    have hpos : (s.pcnt - 1).toNat ≠ 0 := fun h => hne (BitVec.eq_of_toNat_eq h)
    refine (contextFits_iff _).mpr ⟨t, ht, hv, hi, hw, ?_, ?_⟩
    · exact Nat.one_le_iff_ne_zero.mpr hpos
    · exact hcount.trans_le ((Nat.sub_le _ _).trans hhi)
  case inr.inl =>
    cases ht.symm.trans ht'
    exact contextFits_of_entry ht hv hw' hd rfl
  case inr.inr =>
    cases ht.symm.trans ht'
    exact contextFits_of_entry ht hv hw0 (descDuration_of_first hv hw0) rfl

/-! ### XFER keeps its borrow in form -/

theorem borrow_xferStep {s : State} (h : s.xfer.all borrowFits = true) : (xferStep s).xfer.all borrowFits = true := by
  cases hx : s.xfer with
  | none => rw [xferStep_none hx]; exact h
  | some b =>
    have hb : borrowFits b = true := by simpa [hx] using h
    by_cases hd : b.done < b.len.toNat
    · rw [xferStep_some hx hd]
      dsimp only
      split
      · simp_all [borrowFits]
      · rfl
    · simp [xferStep, hx, hd]

theorem borrow_xferSteps {s : State} (h : s.xfer.all borrowFits = true) (k : Nat) :
    (xferSteps k s).xfer.all borrowFits = true := by
  induction k generalizing s with
  | zero => exact h
  | succ k ih => exact ih (borrow_xferStep h)

theorem borrow_xferMeanwhile {s : State} (h : s.xfer.all borrowFits = true) :
    (xferMeanwhile s).xfer.all borrowFits = true := by
  unfold xferMeanwhile
  split
  · exact h
  · rename_i k rest _
    exact borrow_xferSteps (s := { s with overlap := rest }) h k

theorem borrow_callActs {xs : List CallAct} {s s' : State} (h : callActs xs s = .next s')
    (hx : s.xfer.all borrowFits = true) : s'.xfer.all borrowFits = true := by
  induction xs generalizing s with
  | nil => cases h; exact hx
  | cons x xs ih =>
    obtain ⟨s1, h1, h2⟩ := andThen_eq_next h
    refine ih h2 ?_
    cases x with
    | write a v =>
      obtain ⟨_, rfl⟩ := producerWrite_eq_next h1
      exact hx
    | xfer =>
      cases h1
      exact borrow_xferStep hx

/-- R66, R207: the borrow of an ARM that is not refused. -/
theorem borrow_of_arm {addr : Addr} {len : Len} {pclk : PixelClock} (hp : pclk ≠ 3)
    (hw : addr.toNat + len.toNat ≤ 2 ^ Config.addrW) : (borrowOf addr len pclk).all borrowFits = true := by
  unfold borrowOf
  split
  · rfl
  · rename_i hl
    have hpos : 0 < len.toNat := Nat.pos_of_ne_zero fun h => hl (BitVec.eq_of_toNat_eq h)
    simpa [borrowFits, hpos, hw] using hp

/-! ### The parts of the line service keep its invariant

A clause that reads no field an update changes holds after it by definition, so that only the others are given. -/

theorem InService.enter {s : State} (h : Consistent s) (hs : s.serving = true) : InService (enterService s) := by
  obtain ⟨hr, hi⟩ := Bool.and_eq_true_iff.mp hs
  obtain ⟨_, hc⟩ := h.running hr
  rw [enterService_eq]
  exact ⟨h.buf, h.borrow, rfl, hr, hi, hc, h.inbox⟩

theorem InService.arbitrate {s s' : State} (hs : InService s) (h : arbitrate s = .next s') : InService s' := by
  obtain ⟨_, hp, hw, rfl⟩ | ⟨_, rfl⟩ := arbitrate_eq_next h
  · exact { hs with borrow := borrow_of_arm hp hw }
  · exact { hs with }

theorem InService.xferMeanwhile {s : State} (hs : InService s) : InService (xferMeanwhile s) := by
  have hx := borrow_xferMeanwhile hs.borrow
  rw [xferMeanwhile_eq]
  exact { hs with borrow := hx }

theorem InService.advance {s s' : State} (hs : InService s) (h : advance s = .next s') : InService s' := by
  have hc := contextFits_advance h hs.context
  obtain ⟨_, rfl⟩ | ⟨_, _, _, _, _, _, rfl⟩ | ⟨_, _, _, _, _, _, _, _, rfl⟩ := advance_eq_next h
  all_goals exact { hs with context := hc }

theorem InService.produce {s s' : State} (hs : InService s) (h : produce s = .next s') : InService s' := by
  obtain ⟨t, s1, _, h1, rfl⟩ := produce_eq_next h
  have hcall := callActs_eq_next h1
  rw [takeAnswer_eq] at h1 hcall
  have hb := callActs_wf h1 hs.buf
  have hx := borrow_callActs h1 hs.borrow
  rw [hcall]
  exact { hs with buf := hb, borrow := hx }

theorem InService.dispatch {s s' : State} (hs : InService s) (h : dispatch s = .next s') : InService s' := by
  obtain ⟨_, h⟩ | ⟨_, _, h⟩ | ⟨_, _, rfl⟩ := dispatch_eq_next h
  · exact hs.produce h
  · obtain ⟨_, _, rfl⟩ := vblank_eq_next h
    exact { hs with }
  · exact hs

theorem InService.loadShadows {s : State} (hs : InService s) (t : PulseTable) : InService (s.loadShadows t) :=
  { hs with }

theorem InService.record {s : State} (hs : InService s) : InService s.record := by
  unfold State.record
  split
  · exact { hs with }
  · exact { hs with }

theorem InService.serviceBody {s s' : State} (hs : InService s) (h : serviceBody s = .next s') : InService s' := by
  obtain ⟨s1, s2, s3, t, h1, h2, h3, _, rfl⟩ := serviceBody_eq_next h
  have hs1 := hs.arbitrate h1
  have hs2 := hs1.xferMeanwhile.advance h2
  have hs3 := hs2.xferMeanwhile.dispatch h3
  exact (hs3.xferMeanwhile.loadShadows t).xferMeanwhile.record

/-! ### Updates of a consistent state -/

theorem State.run_clear (s : State) : s.clear.run = false := show (0#4).getLsbD 0 = false from rfl

/-- The reset input and TEARDOWN (R222, R280). -/
theorem Consistent.clear {s : State} (h : Consistent s) : Consistent s.clear where
  buf := h.buf
  borrow := rfl
  pending := rfl
  running hr := nomatch s.run_clear.symm.trans hr
  stopped _ := rfl
  inbox := h.inbox

theorem Consistent.withInbox {s : State} (h : Consistent s) {xs : List Stimulus} (hxs : xs.all realStimulus = true) :
    Consistent { s with inbox := xs } :=
  { h with stopped := fun hr => congrArg (fun u : State => { u with inbox := xs }) (h.stopped hr), inbox := hxs }

theorem Consistent.tell {s : State} (h : Consistent s) (r : Reply) : Consistent (s.tell r) :=
  { h with stopped := fun hr => congrArg (fun u => u.tell r) (h.stopped hr) }

theorem Consistent.countTickDraw {s : State} (h : Consistent s) : Consistent s.countTickDraw := by
  rw [countTickDraw_eq]
  exact { h with
    stopped := fun hr => congrArg (fun u : State => { u with draws := s.countTickDraw.draws }) (h.stopped hr) }

theorem Consistent.xferStep {s : State} (h : Consistent s) : Consistent (xferStep s) := by
  cases hx : s.xfer with
  | none => rw [xferStep_none hx]; exact h
  | some b =>
    have hborrow := borrow_xferStep h.borrow
    have hidle : s.tickPending = false := by
      by_contra hp
      simp [h.xfer_of_pending (by simpa using hp)] at hx
    have hrun : s.run = true := by
      by_contra hr
      simp [h.xfer_of_stopped (by simpa using hr)] at hx
    rw [xferStep_eq]
    exact { h with
      borrow := hborrow, pending := pendingFits_of_taken hidle, stopped := fun hr => nomatch hrun.symm.trans hr }

theorem Consistent.waitFor {s : State} (h : Consistent s) {x : Stimulus} (hx : realStimulus x = true) :
    Consistent (s.waitFor x) := by
  have hinbox : s.inbox.all realStimulus = true := h.inbox
  exact h.xferStep.withInbox (by simp [hx, hinbox])

/-! ### What one stimulus does -/

/-- INIT constructs a context on the first descriptor of a valid table (R220). -/
theorem Consistent.construct {s s' : State} {std : Std} (h : Consistent s) (hc : construct std s = .next s') :
    Consistent s' := by
  obtain ⟨t, w, _, ht, hf, hw, rfl⟩ := construct_eq_next hc
  have hv := (firstFailure_eq_none_iff t).mp hf
  have hstd : ∀ std : Std, (ctrlRunning std).getLsbD 0 = true ∧ (ctrlRunning std).getLsbD 1 = true ∧
      (ctrlRunning std).extractLsb' 2 2 = std := by decide
  obtain ⟨hrun, hirq, hsel⟩ := hstd std
  have htable : (s.construct std t w).table? = some t := by
    show s.cfg.table ((ctrlRunning std).extractLsb' 2 2) = some t
    rw [hsel, ht]
  have hctx : (s.construct std t w).contextFits = true :=
    contextFits_of_entry htable hv hw (descDuration_of_first hv hw) rfl
  exact InService.consistent ⟨h.buf, rfl, rfl, hrun, hirq, hctx, h.inbox⟩

theorem Consistent.teardown {s : State} (h : Consistent s) : Consistent (teardown s) := by
  unfold Machine.teardown
  split
  · exact h.clear
  · exact h

theorem Consistent.rdreg {s s' : State} {n : Byte} (h : Consistent s) (he : execRdreg n s = .next s') :
    Consistent s' := by
  unfold execRdreg at he
  split at he
  · cases he; exact h.tell _
  · cases he

/-- TICK of a serving block runs a whole service, or waits for XFER (R69, R170). -/
theorem Consistent.service {s s' : State} (h : Consistent s) (hs : service s = .next s') : Consistent s' := by
  obtain ⟨_, rfl⟩ | ⟨hserving, _, hbody⟩ | ⟨_, _, rfl⟩ := service_eq_next hs
  · exact h
  · exact ((InService.enter h hserving).serviceBody hbody).consistent
  · exact h.waitFor (by decide)

/-- A boundary leaves its event pending with the count at 0 and no borrow (R41, R69). -/
theorem Consistent.lineRate {s s' : State} (h : Consistent s) (hl : lineRate s = .next s') : Consistent s' := by
  obtain ⟨_, rfl⟩ | ⟨hs, _, hx, rfl⟩ | ⟨_, _, _, rfl⟩ := lineRate_eq_next hl
  · exact h
  · obtain ⟨hr, _⟩ := Bool.and_eq_true_iff.mp hs
    have hpending : State.pendingFits { s.activate with tickPending := true } = true := by
      simp [State.pendingFits, transferFits, hx]
    exact { h with pending := hpending, stopped := fun hstop => nomatch hr.symm.trans hstop }
  · exact h.waitFor rfl

/-- Where no service is due first, the count that a tick leaves is below the trigger offset while an event is pending (R292). -/
theorem Consistent.pendingFits_count {s : State} (h : Consistent s) (hr : s.run = true) (hdue : s.armDue = false) :
    State.pendingFits { s.countTickDraw with tcnt := s.nextCount } = true := by
  cases hp : s.tickPending with
  | false => exact pendingFits_of_taken (by rw [countTickDraw_eq]; exact hp)
  | true =>
    obtain ⟨hi, _⟩ := h.running hr
    have hlt : s.nextCount < s.trigofsAct := by simpa [State.armDue, State.serving, hr, hi, hp] using hdue
    rw [countTickDraw_eq]
    simp [State.pendingFits, transferFits, armInTime, h.xfer_of_pending hp, hlt]

/-- A tick of the clock counts, or is a boundary, or lets the pending service come first (R263, R292). -/
theorem Consistent.clockTick {s s' : State} (h : Consistent s) (hc : clockTick s = .next s') : Consistent s' := by
  obtain ⟨_, rfl⟩ | ⟨_, _, hl⟩ | ⟨_, _, _, hs⟩ | ⟨hr, _, hdue, rfl⟩ := clockTick_eq_next hc
  · exact h
  · exact h.countTickDraw.lineRate hl
  · exact (h.withInbox (xs := .clk :: s.inbox) (by simpa [realStimulus] using h.inbox)).service hs
  · have hpending := h.pendingFits_count hr hdue
    rw [countTickDraw_eq] at hpending ⊢
    exact { h with pending := hpending, stopped := fun hstop => nomatch hr.symm.trans hstop }

/-- The operations that agents issue (R100). -/
theorem Consistent.exec {s s' : State} (h : Consistent s) {i : Instr} (hi : issuable i = true)
    (he : exec i s = .next s') : Consistent s' := by
  cases i with
  | init std => exact h.construct he
  | teardown => cases he; exact h.teardown
  | rdreg n => exact h.rdreg he
  | rddiag => cases he; exact h.tell _
  | isact => cases he; exact h.tell _
  | hper => obtain ⟨t, _, ht⟩ := withTable_eq_next he; cases ht; exact h.tell _
  | syncw => obtain ⟨t, _, ht⟩ := withTable_eq_next he; cases ht; exact h.tell _
  | tick => exact h.service he
  | reserved => cases he; exact h
  | _ => cases hi

theorem issuable_of_plainOperation {k : BitVec 4} (hk : 0x1#4 ≤ k ∧ k ≤ 0x4#4) {i : Instr}
    (h : plainOperation k = some i) : issuable i = true := by
  have hall : ∀ k : BitVec 4, 0x1#4 ≤ k ∧ k ≤ 0x4#4 → (plainOperation k).all issuable = true := by decide
  simpa [h] using hall k hk

/-- An operation word decodes to INIT, to RDREG, or to the operation of its id without an operand (R100). -/
theorem decodeOperation_eq_ok {w : OpWord} {i : Instr} (h : decodeOperation w = .ok i) :
    (∃ std, i = .init std) ∨ (∃ n, i = .rdreg n) ∨ plainOperation (opId w) = some i := by
  unfold decodeOperation at h
  split at h
  · cases h
  split at h
  · split at h <;> cases h
    exact .inl ⟨_, rfl⟩
  split at h
  · cases h
    exact .inr (.inl ⟨_, rfl⟩)
  split at h
  · cases h
  split at h <;> cases h
  exact .inr (.inr ‹_›)

/-- HOST's port decodes to HOST's operations and to the reserved id (R101). -/
theorem issuable_of_decodeCommand {w : OpWord} {i : Instr} (h : decodeCommand w = .ok i) : issuable i = true := by
  unfold decodeCommand at h
  split at h
  · obtain ⟨std, rfl⟩ | ⟨n, rfl⟩ | hplain := decodeOperation_eq_ok h
    · rfl
    · rfl
    · exact issuable_of_plainOperation ‹_› hplain
  · cases h
    rfl

/-- Bits that decode to an operation of an agent, or to none. -/
theorem Consistent.runDecoded {s s' : State} (h : Consistent s) {r : Except DecodeError Instr}
    (hr : ∀ i, r = .ok i → issuable i = true) (he : runDecoded r s = .next s') : Consistent s' := by
  cases r with
  | ok i => exact h.exec (hr i rfl) he
  | error e => cases he; exact h

theorem Consistent.react {s s' : State} (h : Consistent s) {x : Stimulus} (hx : realStimulus x = true)
    (hr : react x s = .next s') : Consistent s' := by
  cases x with
  | command w => exact h.runDecoded (fun _ => issuable_of_decodeCommand) hr
  | operation w => exact h.runDecoded (fun i hi => by simpa [realStimulus, hi] using hx) hr
  | descriptor w => cases hx
  | lineRate => exact h.lineRate hr
  | clk => exact h.clockTick hr
  | xfer => cases hr; exact h.xferStep
  | rst => cases hr; exact h.clear

/-- Settles O56: a step takes the stimulus out of the inbox and reacts to it, or the machine goes on by itself. -/
theorem everyStepKeepsConsistency : Obligations.EveryStepKeepsConsistency := by
  intro s s' hc hstep
  have h := (consistent_iff s).mp hc
  refine (consistent_iff s').mpr ?_
  cases hin : s.inbox with
  | nil =>
    rw [step_nil hin] at hstep
    unfold idle at hstep
    split at hstep
    · exact h.service hstep
    · exact h.clockTick hstep
  | cons x rest =>
    have hreal := h.inbox
    simp only [hin, List.all_cons, Bool.and_eq_true] at hreal
    obtain ⟨hx, hrest⟩ := hreal
    rw [step_cons hin] at hstep
    exact (h.withInbox hrest).react hx hstep

/-- Settles O55: RUN is 0, and the reset state is the one the reset input leaves it in. -/
theorem resetStateIsConsistent : Obligations.ResetStateIsConsistent := by
  refine (consistent_iff State.reset).mpr ?_
  exact
    { buf := Memory.wf_nil
      borrow := rfl
      pending := rfl
      running := fun hr => nomatch State.reset.run_clear.symm.trans hr
      stopped := fun _ => rfl
      inbox := rfl }

end Sys2Proof.Machine
end

section
/-! PROOF. The diagnostic counters have no influence (R35, R226): every operation but their readers respects the view
that hides them. Most updates of the state commute with the view; DIAG, which writes one counter, only respects it. -/

namespace Sys2Proof.Machine

/-! ### What the view that hides the counters shows -/

@[simp] theorem hideDiagnostics_run (s : State) : (hideDiagnostics s).run = s.run := rfl
@[simp] theorem hideDiagnostics_isActive (s : State) : (hideDiagnostics s).isActive = s.isActive := rfl
@[simp] theorem hideDiagnostics_tickPending (s : State) : (hideDiagnostics s).tickPending = s.tickPending := rfl
@[simp] theorem hideDiagnostics_xfer (s : State) : (hideDiagnostics s).xfer = s.xfer := rfl
@[simp] theorem hideDiagnostics_cfg (s : State) : (hideDiagnostics s).cfg = s.cfg := rfl
@[simp] theorem hideDiagnostics_table? (s : State) : (hideDiagnostics s).table? = s.table? := rfl
@[simp] theorem hideDiagnostics_answers (s : State) : (hideDiagnostics s).answers = s.answers := rfl
@[simp] theorem hideDiagnostics_overlap (s : State) : (hideDiagnostics s).overlap = s.overlap := rfl

/-! ### Updates that commute with hiding the counters -/

/-- An update that commutes with the view needs only what the view shows. -/
theorem hideDiagnostics_of_commutes {f : State → State} (hf : ∀ s, f (hideDiagnostics s) = hideDiagnostics (f s))
    (s : State) : hideDiagnostics (f (hideDiagnostics s)) = hideDiagnostics (f s) :=
  (congrArg hideDiagnostics (hf s)).trans rfl

theorem xferStep_hideDiagnostics (s : State) : xferStep (hideDiagnostics s) = hideDiagnostics (xferStep s) := by
  unfold xferStep
  rw [hideDiagnostics_xfer]
  cases s.xfer with
  | none => rfl
  | some b => dsimp only; split <;> rfl

theorem xferSteps_hideDiagnostics (k : Nat) (s : State) :
    xferSteps k (hideDiagnostics s) = hideDiagnostics (xferSteps k s) := by
  induction k generalizing s with
  | zero => rfl
  | succ k ih => simp only [xferSteps, xferStep_hideDiagnostics, ih]

theorem xferMeanwhile_hideDiagnostics (s : State) :
    xferMeanwhile (hideDiagnostics s) = hideDiagnostics (xferMeanwhile s) := by
  unfold xferMeanwhile
  rw [hideDiagnostics_overlap]
  cases s.overlap with
  | nil => rfl
  | cons k rest => exact xferSteps_hideDiagnostics k { s with overlap := rest }

theorem waitFor_hideDiagnostics (x : Stimulus) (s : State) :
    (hideDiagnostics s).waitFor x = hideDiagnostics (s.waitFor x) :=
  congrArg (fun u => { u with inbox := x :: s.inbox }) (xferStep_hideDiagnostics s)

theorem takeAnswer_hideDiagnostics (s : State) : (hideDiagnostics s).takeAnswer = hideDiagnostics s.takeAnswer := by
  unfold State.takeAnswer
  rw [hideDiagnostics_answers]
  split <;> rfl

theorem enterService_hideDiagnostics (s : State) :
    enterService (hideDiagnostics s) = hideDiagnostics (enterService s) := by
  unfold enterService
  rw [hideDiagnostics_tickPending]
  split <;> rfl

theorem boundary_hideDiagnostics (s : State) : boundary (hideDiagnostics s) = hideDiagnostics (boundary s) := by
  unfold boundary
  rw [hideDiagnostics_xfer]
  split
  · rfl
  · exact waitFor_hideDiagnostics _ s

theorem teardown_hideDiagnostics (s : State) : teardown (hideDiagnostics s) = hideDiagnostics (teardown s) := by
  unfold teardown
  rw [hideDiagnostics_run]
  split <;> rfl

/-- DIAG overwrites one counter, chosen by the class of the line, with a value that depends on neither. -/
theorem hideDiagnostics_record (s : State) : hideDiagnostics (hideDiagnostics s).record = hideDiagnostics s.record := by
  unfold State.record
  rw [hideDiagnostics_isActive]
  split <;> rfl

/-- The counters are the registers 23 and 24, and no other number reads them. -/
theorem readReg_hideDiagnostics (s : State) {n : Byte} (h23 : n ≠ 23) (h24 : n ≠ 24) :
    (hideDiagnostics s).readReg n = s.readReg n := by
  have h23 : n.toNat ≠ 23 := fun h => h23 (BitVec.eq_of_toNat_eq h)
  have h24 : n.toNat ≠ 24 := fun h => h24 (BitVec.eq_of_toNat_eq h)
  have hreg : (hideDiagnostics s).register n.toNat = s.register n.toNat := by
    unfold State.register
    split
    case h_20 heq => exact absurd heq h23
    case h_21 heq => exact absurd heq h24
    all_goals rfl
  simp only [State.readReg, hideDiagnostics_run, hideDiagnostics_table?, hreg]

/-! ### The sequencer -/

theorem wrap_respects_hideDiagnostics : Respects hideDiagnostics wrap := by
  refine .withTable hideDiagnostics_table? fun t => ?_
  cases t.fetch 0 with
  | none => exact fun _ => rfl
  | some w => exact respects_next fun _ => rfl

theorem acceptDescriptor_respects_hideDiagnostics (w : DescWord) : Respects hideDiagnostics (acceptDescriptor w) :=
  .ite (fun _ => rfl) wrap_respects_hideDiagnostics (respects_next fun _ => rfl)

theorem advance_respects_hideDiagnostics : Respects hideDiagnostics advance := by
  refine .ite (fun _ => rfl) (respects_next fun _ => rfl) (.withTable hideDiagnostics_table? fun t s => ?_)
  have hpidx : (hideDiagnostics s).countDown.pidx = s.countDown.pidx := rfl
  rw [hpidx]
  cases t.fetch (s.countDown.pidx + 1) with
  | none => rfl
  | some w => exact acceptDescriptor_respects_hideDiagnostics w s.countDown

/-! ### The line service -/

theorem arbitrate_respects_hideDiagnostics : Respects hideDiagnostics arbitrate :=
  .ite (fun _ => rfl)
    (.ite (fun _ => rfl) (respects_refused .badPixelClock)
      (.ite (fun _ => rfl) (respects_refused .bufferWraps) (respects_next fun _ => rfl)))
    (respects_next fun _ => rfl)

theorem callActs_respects_hideDiagnostics (xs : List CallAct) : Respects hideDiagnostics (callActs xs) := by
  induction xs with
  | nil => exact respects_next fun _ => rfl
  | cons x xs ih =>
    cases x with
    | write a v =>
      have hwrite : Respects hideDiagnostics (producerWrite a v) :=
        .ite (fun _ => rfl) (respects_fault .bufferRace) (respects_next fun _ => rfl)
      exact hwrite.andThen ih
    | xfer => exact ih.comp (hideDiagnostics_of_commutes xferStep_hideDiagnostics)

theorem produce_respects_hideDiagnostics : Respects hideDiagnostics produce := by
  refine .withTable hideDiagnostics_table? fun t s => ?_
  have hask (u : State) : ((hideDiagnostics u).emit (.scanlineReq (ctxView t u))).takeAnswer =
      hideDiagnostics (u.emit (.scanlineReq (ctxView t u))).takeAnswer :=
    takeAnswer_hideDiagnostics (u.emit (.scanlineReq (ctxView t u)))
  have hcall : Respects hideDiagnostics fun u =>
      andThen (callActs s.nextAnswer.acts (u.emit (.scanlineReq (ctxView t u))).takeAnswer) fun u' =>
        .next (u'.latch s.nextAnswer.scanline) :=
    ((callActs_respects_hideDiagnostics s.nextAnswer.acts).comp (hideDiagnostics_of_commutes hask)).andThen
      (respects_next fun _ => rfl)
  exact hcall s

theorem dispatch_respects_hideDiagnostics : Respects hideDiagnostics dispatch :=
  have hvblank : Respects hideDiagnostics vblank := .withTable hideDiagnostics_table? fun _ => respects_next fun _ => rfl
  .ite (fun _ => rfl) produce_respects_hideDiagnostics
    (.ite (fun _ => rfl) hvblank (respects_next fun _ => rfl))

theorem reprogram_respects_hideDiagnostics : Respects hideDiagnostics reprogram :=
  .withTable hideDiagnostics_table? fun _ => respects_next fun _ => rfl

/-- Each part of the service respects the view, and XFER's steps in the gaps commute with it. -/
theorem serviceBody_respects_hideDiagnostics : Respects hideDiagnostics serviceBody :=
  have hgap := hideDiagnostics_of_commutes xferMeanwhile_hideDiagnostics
  have hdiag : Respects hideDiagnostics fun s => .next (leaveService s.record) := respects_next hideDiagnostics_record
  arbitrate_respects_hideDiagnostics.andThen <| (advance_respects_hideDiagnostics.comp hgap).andThen <|
    (dispatch_respects_hideDiagnostics.comp hgap).andThen <|
      (reprogram_respects_hideDiagnostics.comp hgap).andThen <| hdiag.comp hgap

theorem service_respects_hideDiagnostics : Respects hideDiagnostics service :=
  .ite (fun _ => rfl)
    (.ite (fun _ => rfl)
      (serviceBody_respects_hideDiagnostics.comp (hideDiagnostics_of_commutes enterService_hideDiagnostics))
      (respects_next (hideDiagnostics_of_commutes
        (f := fun s => s.waitFor (.operation (opWord 0x8 0))) (waitFor_hideDiagnostics _))))
    (respects_next fun _ => rfl)

/-! ### HOST's operations -/

theorem construct_respects_hideDiagnostics (std : Std) : Respects hideDiagnostics (construct std) := by
  refine .ite (fun _ => rfl) (respects_refused .initWhileRunning) fun s => ?_
  rw [hideDiagnostics_cfg]
  cases s.cfg.table std with
  | none => rfl
  | some t =>
    dsimp only
    cases t.firstFailure with
    | some c => rfl
    | none => cases t.fetch 0 <;> rfl

theorem execRdreg_respects_hideDiagnostics {n : Byte} (h23 : n ≠ 23) (h24 : n ≠ 24) :
    Respects hideDiagnostics (execRdreg n) := by
  intro s
  unfold execRdreg
  rw [readReg_hideDiagnostics s h23 h24]
  cases s.readReg n <;> rfl

/-! ### Every instruction -/

/-- No instruction but the two readers of the counters looks at what the view hides. -/
theorem exec_respects_hideDiagnostics {i : Instr} (hdiag : i ≠ .rddiag) (h23 : i ≠ .rdreg 23) (h24 : i ≠ .rdreg 24) :
    Respects hideDiagnostics (exec i) := by
  cases i with
  | endMark low => exact wrap_respects_hideDiagnostics
  | pulse h sh l a r n => exact acceptDescriptor_respects_hideDiagnostics (descWord h sh l a r n)
  | long2 n => exact acceptDescriptor_respects_hideDiagnostics (descWord true false true false 0 n)
  | short2 n => exact acceptDescriptor_respects_hideDiagnostics (descWord true true false false 0 n)
  | blank n => exact acceptDescriptor_respects_hideDiagnostics (descWord false false false false 0 n)
  | active n => exact acceptDescriptor_respects_hideDiagnostics (descWord false false false true 0 n)
  | short n => exact acceptDescriptor_respects_hideDiagnostics (descWord false true false false 0 n)
  | shorthalf shs n => exact acceptDescriptor_respects_hideDiagnostics (descWord true shs false false 0 n)
  | init std => exact construct_respects_hideDiagnostics std
  | teardown => exact respects_next (hideDiagnostics_of_commutes teardown_hideDiagnostics)
  | rdreg n =>
    exact execRdreg_respects_hideDiagnostics (fun h => h23 (congrArg Instr.rdreg h)) fun h => h24 (congrArg Instr.rdreg h)
  | rddiag => exact absurd rfl hdiag
  | hper => exact .withTable hideDiagnostics_table? fun _ => respects_next fun _ => rfl
  | syncw => exact .withTable hideDiagnostics_table? fun _ => respects_next fun _ => rfl
  | isact => exact respects_next fun _ => rfl
  | tick => exact service_respects_hideDiagnostics
  | boundary => exact respects_next (hideDiagnostics_of_commutes boundary_hideDiagnostics)
  | arb => exact arbitrate_respects_hideDiagnostics
  | step => exact advance_respects_hideDiagnostics
  | produce => exact produce_respects_hideDiagnostics
  | vblank => exact .withTable hideDiagnostics_table? fun _ => respects_next fun _ => rfl
  | reprog => exact reprogram_respects_hideDiagnostics
  | diag => exact respects_next hideDiagnostics_record
  | reserved => exact respects_next fun _ => rfl

/-- Settles O59: two values of the counters are one state to the view, and every other instruction respects it. -/
theorem diagnosticsHaveNoInfluence : Obligations.DiagnosticsHaveNoInfluence :=
  fun _ _ _ _ hdiag h23 h24 => (exec_respects_hideDiagnostics hdiag h23 h24).congr rfl

end Sys2Proof.Machine
end

section
/-! PROOF. RDREG by register number (R36, R224), and a boundary before its service (R41, R290). -/

namespace Sys2Proof.Machine

/-! ### RDREG -/

theorem exec_rdreg_of_readReg {s : State} {n : Byte} {v : BitVec 32} (h : s.readReg n = some v) :
    exec (.rdreg n) s = .next (s.tell (.reg v)) := by
  show execRdreg n s = _
  simp only [execRdreg, h]

theorem readReg_of_stopped {s : State} (hr : s.run = false) (n : Byte) : s.readReg n = some 0 := by
  simp only [State.readReg, if_pos hr]

/-- The numbers 5 to 8 are the constants of the selected table (R29). -/
theorem readReg_of_constant {s : State} {t : PulseTable} {n : Byte} (hr : s.run = true) (ht : s.table? = some t)
    (hn : 5 ≤ n.toNat ∧ n.toNat ≤ 8) : s.readReg n = some (tableConstant t n.toNat) := by
  simp [State.readReg, hr, ht, hn]

/-- Every other number is a register, or not listed. -/
theorem readReg_of_register {s : State} {n : Byte} (hr : s.run = true) (hn : ¬ (5 ≤ n.toNat ∧ n.toNat ≤ 8)) :
    s.readReg n = some (s.register n.toNat) := by
  simp only [State.readReg, hr, Bool.true_eq_false, if_false, if_neg hn]

theorem register_of_unlisted (s : State) {k : Nat} (h : 25 ≤ k) : s.register k = 0 := by
  obtain ⟨j, rfl⟩ := Nat.exists_eq_add_of_le' h
  rfl

theorem setWidth_ofBool (b : Bool) : (BitVec.ofBool b).setWidth 32 = if b then 1 else 0 := by
  cases b <;> rfl

/-- Settles O47: a number is read from the table, from a register, or not listed. -/
theorem rdregReturnsTheNumberedRegister : Obligations.RdregReturnsTheNumberedRegister := by
  intro s n answers
  refine ⟨fun hr => exec_rdreg_of_readReg (readReg_of_stopped hr n), fun hr t ht => ?_⟩
  have hconst (hn : 5 ≤ n.toNat ∧ n.toNat ≤ 8) : answers (tableConstant t n.toNat) :=
    exec_rdreg_of_readReg (readReg_of_constant hr ht hn)
  have hreg (hn : ¬ (5 ≤ n.toNat ∧ n.toNat ≤ 8)) : answers (s.register n.toNat) :=
    exec_rdreg_of_readReg (readReg_of_register hr hn)
  rw [← setWidth_ofBool]
  generalize n.toNat = k at hconst hreg ⊢
  obtain hlow | ⟨hlo, hhi⟩ | ⟨hlo, hhi⟩ | hunlisted : k < 5 ∨ (5 ≤ k ∧ k ≤ 8) ∨ (9 ≤ k ∧ k < 25) ∨ 25 ≤ k := by omega
  · interval_cases k
    all_goals exact hreg (by decide)
  · interval_cases k
    all_goals exact hconst (by decide)
  · interval_cases k
    all_goals exact hreg (by decide)
  · have h0 := hreg (by omega)
    rw [register_of_unlisted s hunlisted] at h0
    obtain ⟨j, rfl⟩ := Nat.exists_eq_add_of_le' hunlisted
    exact h0

/-! ### TIMER's boundary -/

/-- Without a borrow a boundary of a serving block leaves its event pending. -/
theorem lineRate_of_no_borrow {s : State} (hs : s.serving = true) (hp : s.tickPending = false) (hx : s.xfer = none) :
    lineRate s = .next { s.activate with tickPending := true } := by
  simp [lineRate, hs, hp, hx]

theorem lineRate_of_pending {s : State} (hs : s.serving = true) (hp : s.tickPending = true) :
    lineRate s = .fault .deadlineOverrun := by
  simp [lineRate, hs, hp]

/-- Settles O50: on a serving block the pending record decides between the copy and the fault. -/
theorem secondBoundaryIsAnOverrun : Obligations.SecondBoundaryIsAnOverrun := by
  intro s rest hrun hirq hin
  have hs : State.serving { s with inbox := rest } = true := Bool.and_eq_true_iff.mpr ⟨hrun, hirq⟩
  rw [step_cons hin]
  exact ⟨fun hp hx => lineRate_of_no_borrow hs hp hx, fun hp => lineRate_of_pending hs hp⟩

end Sys2Proof.Machine
end

section
/-! PROOF. XFER sends the bytes of its borrow in ascending order (R67), a boundary waits for the last of them (R69), a store
of PRODUCER races with those not yet read (R70), and ARB refuses what cannot be borrowed (R66, R207). -/

namespace Sys2Proof.Machine

/-! ### The bytes XFER sends -/

theorem toNat_nextByteAddr (b : Borrow) : (nextByteAddr b).toNat = (b.addr.toNat + b.done) % 2 ^ Config.addrW := by
  simp [nextByteAddr, BitVec.toNat_add]

/-- The state in which `n` more bytes of the borrow `b` are sent, which ends with its last byte. -/
def State.afterSending (s : State) (b : Borrow) (n : Nat) : State :=
  { s with
    xfer := if b.done + n = b.len.toNat then none else some { b with done := b.done + n },
    serial := s.serial ++ (List.range' b.done n).map fun k =>
      (b.pclk, readByte s.buf ((b.addr.toNat + k) % 2 ^ Config.addrW)) }

section
variable {s : State} {b : Borrow} (hx : s.xfer = some b)
include hx

theorem afterSending_zero (hb : b.done < b.len.toNat) : s.afterSending b 0 = s := by
  simp [State.afterSending, hb.ne, ← hx]

theorem xferStep_eq_afterSending (hb : b.done < b.len.toNat) : xferStep s = s.afterSending b 1 := by
  have hlast : (b.done + 1 < b.len.toNat) = ¬ b.done + 1 = b.len.toNat := by rw [eq_iff_iff]; omega
  simp [xferStep_some hx hb, State.afterSending, toNat_nextByteAddr, hlast]

/-- As many steps of XFER as there are bytes left, or fewer, send one byte each. -/
theorem xferSteps_eq_afterSending (hb : b.done < b.len.toNat) (n : Nat) (hn : b.done + n ≤ b.len.toNat) :
    xferSteps n s = s.afterSending b n := by
  induction n generalizing s b with
  | zero => exact (afterSending_zero hx hb).symm
  | succ n ih =>
    rw [xferSteps, xferStep_eq_afterSending hx hb]
    by_cases hlast : b.done + 1 = b.len.toNat
    · obtain rfl : n = 0 := by omega
      rfl
    · have hx' : (s.afterSending b 1).xfer = some { b with done := b.done + 1 } := if_neg hlast
      rw [ih hx' (by dsimp only; omega) (by dsimp only; omega)]
      simp [State.afterSending, List.range'_succ, Nat.add_right_comm, Nat.add_assoc]

/-- What XFER has yet to read after `k` steps (R70). -/
theorem unread_xferSteps (k : Nat) (a : Addr) :
    (xferSteps k s).xfer.any (unread · a) = true ↔
      b.addr.toNat + b.done + k ≤ a.toNat ∧ a.toNat < b.addr.toNat + b.len.toNat := by
  induction k generalizing s b with
  | zero => simp [xferSteps, hx, unread]
  | succ k ih =>
    rw [xferSteps]
    by_cases hb : b.done + 1 < b.len.toNat
    · have hx' : (xferStep s).xfer = some { b with done := b.done + 1 } := by
        simp [xferStep_some hx (Nat.lt_of_succ_lt hb), hb]
      rw [ih hx']
      dsimp only
      omega
    · have hx' : (xferStep s).xfer = none := by
        by_cases hd : b.done < b.len.toNat
        · simp [xferStep_some hx hd, hb]
        · simp [xferStep, hx, hd]
      rw [xferSteps_none hx', hx']
      simp only [Option.any_none, Bool.false_eq_true, false_iff]
      omega

/-- What waits while a borrow is present finds the next byte sent. -/
theorem waitFor_eq_afterSending (hb : b.done < b.len.toNat) (x : Stimulus) :
    s.waitFor x = { s.afterSending b 1 with inbox := x :: s.inbox } := by
  rw [State.waitFor, xferStep_eq_afterSending hx hb]

end

/-- Settles O53: XFER's stimulus is one step of XFER, on the state with the stimulus taken out. -/
theorem xferSendsTheNextByte : Obligations.XferSendsTheNextByte := by
  intro s rest hin
  rw [step_cons hin]
  refine ⟨fun hx => ?_, fun b hx hb => ?_⟩
  · exact congrArg _ (xferStep_none (s := { s with inbox := rest }) hx)
  · exact congrArg _ (xferStep_eq_afterSending (s := { s with inbox := rest }) hx hb)

/-! ### A boundary waits for the transfer -/

/-- TICK on a running block with no event pending waits while a borrow is present (R69). -/
theorem service_of_borrow {s : State} {b : Borrow} (hs : s.serving = true) (hp : s.tickPending = false)
    (hx : s.xfer = some b) : service s = .next (s.waitFor (.operation Instr.tick.word)) := by
  simp [service, hs, State.tickEnabled, hp, hx, Instr.word, encode]

/-- So does TIMER's boundary. -/
theorem lineRate_of_borrow {s : State} {b : Borrow} (hs : s.serving = true) (hp : s.tickPending = false)
    (hx : s.xfer = some b) : lineRate s = .next (s.waitFor .lineRate) := by
  simp [lineRate, hs, hp, hx]

/-- A running block with nothing pending and a stimulus that needs a boundary at the head of the inbox. -/
structure AwaitsBoundary (s : State) : Prop where
  serving : s.serving = true
  idle : s.tickPending = false
  inbox : ∃ rest, s.inbox = .lineRate :: rest ∨ s.inbox = .operation Instr.tick.word :: rest

theorem AwaitsBoundary.xferStep {s : State} (h : AwaitsBoundary s) : AwaitsBoundary (xferStep s) := by
  rw [xferStep_eq]
  exact { h with }

/-- While a borrow has bytes left, a step that awaits the boundary is a step of XFER. -/
theorem AwaitsBoundary.step {s : State} {b : Borrow} (h : AwaitsBoundary s) (hx : s.xfer = some b)
    (hb : b.done < b.len.toNat) : step s = .next (Machine.xferStep s) := by
  obtain ⟨hs, hp, rest, hin⟩ := h
  have hwait (x : Stimulus) (hin : s.inbox = x :: rest) :
      State.waitFor { s with inbox := rest } x = Machine.xferStep s := by
    rw [waitFor_eq_afterSending (s := { s with inbox := rest }) hx hb, xferStep_eq_afterSending hx hb]
    simp only [State.afterSending, hin]
  obtain hin | hin := hin
  all_goals rw [step_cons hin, ← hwait _ hin]
  · exact lineRate_of_borrow (s := { s with inbox := rest }) hs hp hx
  · have htick : decodeOperation Instr.tick.word = .ok .tick := by decide
    rw [react, htick]
    exact service_of_borrow (s := { s with inbox := rest }) hs hp hx

theorem AwaitsBoundary.stepTimes {s : State} (h : AwaitsBoundary s) (n : Nat)
    (hx : ∀ j < n, ∃ b, (xferSteps j s).xfer = some b ∧ b.done < b.len.toNat) :
    stepTimes n s = .next (xferSteps n s) := by
  induction n generalizing s with
  | zero => rfl
  | succ n ih =>
    obtain ⟨b, hx0, hb⟩ := hx 0 n.succ_pos
    rw [Machine.stepTimes, h.step hx0 hb, andThen_next]
    exact ih h.xferStep fun j hj => hx (j + 1) (Nat.succ_lt_succ hj)

/-- Settles O25: an operation that waits takes one step of XFER, and a run of steps that await the boundary takes as many,
which leave a borrow until the last byte is sent. -/
theorem boundaryComesAfterTheTransfer : Obligations.BoundaryComesAfterTheTransfer := by
  intro s b hx hb after
  have hwait (x : Stimulus) : s.waitFor x = { after 1 with inbox := x :: s.inbox } := waitFor_eq_afterSending hx hb x
  refine ⟨congrArg _ ((boundary_of_borrow hx).trans (hwait _)), fun hrun hirq hp => ?_⟩
  have hs : s.serving = true := Bool.and_eq_true_iff.mpr ⟨hrun, hirq⟩
  refine ⟨(service_of_borrow hs hp hx).trans (congrArg _ (hwait _)), fun rest hin n hn => ?_⟩
  have hpresent : ∀ j < n, ∃ c, (xferSteps j s).xfer = some c ∧ c.done < c.len.toNat := by
    intro j hj
    rw [xferSteps_eq_afterSending hx hb j (by omega)]
    exact ⟨{ b with done := b.done + j }, if_neg (by omega), show b.done + j < b.len.toNat by omega⟩
  rw [AwaitsBoundary.stepTimes ⟨hs, hp, rest, hin⟩ n hpresent]
  exact congrArg _ (xferSteps_eq_afterSending hx hb n hn)

/-! ### The race of a store -/

/-- The reads at the front of a call are steps of XFER. -/
theorem callActs_replicate_xfer (k : Nat) (xs : List CallAct) (s : State) :
    callActs (List.replicate k .xfer ++ xs) s = callActs xs (xferSteps k s) := by
  induction k generalizing s with
  | zero => rfl
  | succ k ih => exact ih (xferStep s)

theorem callActs_write_eq_race (a : Addr) (v : Byte) (s : State) :
    callActs [.write a v] s = .fault .bufferRace ↔ s.xfer.any (unread · a) = true := by
  show andThen (producerWrite a v s) Host.Outcome.next = _ ↔ _
  unfold producerWrite
  split <;> simp [*]

/-- PRODUCE faults where its call does. -/
theorem produce_eq_fault {s : State} {t : PulseTable} (ht : s.table? = some t) (f : Fault) :
    produce s = .fault f ↔
      callActs s.nextAnswer.acts (s.emit (.scanlineReq (ctxView t s))).takeAnswer = .fault f := by
  rw [produce, withTable_some ht]
  cases callActs s.nextAnswer.acts (s.emit (.scanlineReq (ctxView t s))).takeAnswer <;> simp

/-- Settles O31: the call is the reads, and then a store into what they have left unread. -/
theorem raceIsAStoreToAnUnreadByte : Obligations.RaceIsAStoreToAnUnreadByte := by
  intro s t b k ad v vals ht hx hans
  have hx' : (s.emit (.scanlineReq (ctxView t s))).takeAnswer.xfer = some b := by rw [takeAnswer_eq]; exact hx
  have hacts : s.nextAnswer.acts = List.replicate k .xfer ++ [.write ad v] := by simp only [State.nextAnswer, hans]
  calc exec .produce s = .fault .bufferRace
      ↔ callActs [.write ad v] (xferSteps k (s.emit (.scanlineReq (ctxView t s))).takeAnswer) = .fault .bufferRace := by
        rw [← callActs_replicate_xfer, ← hacts]; exact produce_eq_fault ht _
    _ ↔ _ := (callActs_write_eq_race ad v _).trans (unread_xferSteps hx' k ad)

/-! ### What ARB refuses -/

/-- Settles O28: the flag `active` is bit 3 of CPULSE (R92), and the clock is looked at first. -/
theorem arbRefusesBadTransfers : Obligations.ArbRefusesBadTransfers := by
  intro s ha
  have ha : s.isActive = true := ha
  refine ⟨fun hp => ?_, fun hp hw => ?_⟩
  all_goals show arbitrate s = _
  · rw [arbitrate, if_pos ha, if_pos hp]
  · rw [arbitrate, if_pos ha, if_neg hp, if_pos hw]

end Sys2Proof.Machine
end

section
/-! PROOF. Nothing writes the tables (R60, R78), only PRODUCER writes BUF (R61, R258), and the shadow values of one service
become active with the next boundary (R75). What a line service keeps is said once, for the first and the last of these. -/

namespace Sys2Proof.Machine

/-! ### What every part of a line service keeps -/

/-- From ARB to DIAG a service writes neither CTRL, nor the active registers, nor the pending record, nor the tables. -/
structure ServiceFrame (s s' : State) : Prop where
  ctrl : s'.ctrl = s.ctrl
  periodAct : s'.periodAct = s.periodAct
  syncwAct : s'.syncwAct = s.syncwAct
  trigofsAct : s'.trigofsAct = s.trigofsAct
  tickPending : s'.tickPending = s.tickPending
  cfg : s'.cfg = s.cfg

theorem ServiceFrame.refl (s : State) : ServiceFrame s s := ⟨rfl, rfl, rfl, rfl, rfl, rfl⟩

theorem ServiceFrame.trans {s s1 s2 : State} (h1 : ServiceFrame s s1) (h2 : ServiceFrame s1 s2) : ServiceFrame s s2 where
  ctrl := h2.ctrl.trans h1.ctrl
  periodAct := h2.periodAct.trans h1.periodAct
  syncwAct := h2.syncwAct.trans h1.syncwAct
  trigofsAct := h2.trigofsAct.trans h1.trigofsAct
  tickPending := h2.tickPending.trans h1.tickPending
  cfg := h2.cfg.trans h1.cfg

theorem arbitrate_frame {s s' : State} (h : arbitrate s = .next s') : ServiceFrame s s' := by
  obtain ⟨_, _, _, rfl⟩ | ⟨_, rfl⟩ := arbitrate_eq_next h
  · exact { ServiceFrame.refl s with }
  · exact { ServiceFrame.refl s with }

theorem xferMeanwhile_frame (s : State) : ServiceFrame s (xferMeanwhile s) := by
  rw [xferMeanwhile_eq]
  exact { ServiceFrame.refl s with }

theorem advance_frame {s s' : State} (h : advance s = .next s') : ServiceFrame s s' := by
  obtain ⟨_, rfl⟩ | ⟨_, _, _, _, _, _, rfl⟩ | ⟨_, _, _, _, _, _, _, _, rfl⟩ := advance_eq_next h
  all_goals exact { ServiceFrame.refl s with }

theorem produce_frame {s s' : State} (h : produce s = .next s') : ServiceFrame s s' := by
  obtain ⟨t, s1, _, hcall, rfl⟩ := produce_eq_next h
  rw [callActs_eq_next hcall, takeAnswer_eq]
  exact { ServiceFrame.refl s with }

theorem dispatch_frame {s s' : State} (h : dispatch s = .next s') : ServiceFrame s s' := by
  obtain ⟨_, h⟩ | ⟨_, _, h⟩ | ⟨_, _, rfl⟩ := dispatch_eq_next h
  · exact produce_frame h
  · obtain ⟨_, _, rfl⟩ := vblank_eq_next h
    exact { ServiceFrame.refl s with }
  · exact .refl _

theorem loadShadows_frame (s : State) (t : PulseTable) : ServiceFrame s (s.loadShadows t) :=
  { ServiceFrame.refl s with }

theorem record_frame (s : State) : ServiceFrame s s.record := by
  constructor <;> simp

theorem serviceBody_frame {s s' : State} (h : serviceBody s = .next s') : ServiceFrame s s' := by
  obtain ⟨s1, s2, s3, t, h1, h2, h3, _, rfl⟩ := serviceBody_eq_next h
  have hstep : ServiceFrame s s2 := (arbitrate_frame h1).trans <| (xferMeanwhile_frame s1).trans (advance_frame h2)
  have hcall : ServiceFrame s s3 := hstep.trans <| (xferMeanwhile_frame s2).trans (dispatch_frame h3)
  exact hcall.trans <| (xferMeanwhile_frame s3).trans <| (loadShadows_frame _ t).trans <|
    (xferMeanwhile_frame _).trans (record_frame _)

/-! ### The shadow values and the boundary -/

/-- A service that transferFits lets begin is entered and run. -/
theorem serviceBody_of_tick {s s' : State} (hs : s.serving = true) (hfits : transferFits s = true)
    (h : exec .tick s = .next s') : serviceBody (enterService s) = .next s' := by
  have henabled : s.tickEnabled = true := Bool.or_eq_true_iff.mpr (.inr hfits)
  obtain ⟨hstop, _⟩ | ⟨_, _, hbody⟩ | ⟨_, hwait, _⟩ := service_eq_next h
  · exact nomatch hs.symm.trans hstop
  · exact hbody
  · exact nomatch henabled.symm.trans hwait

/-- A service with a boundary of its own leaves active what the shadow registers held before it. -/
theorem tick_activates {s s' : State} (hs : s.serving = true) (hfits : transferFits s = true) (hp : s.tickPending = false)
    (h : exec .tick s = .next s') :
    s'.periodAct = s.periodSh ∧ s'.syncwAct = s.syncwSh ∧ s'.trigofsAct = s.trigofsSh := by
  have hframe := serviceBody_frame (serviceBody_of_tick hs hfits h)
  simp only [enterService, hp, Bool.false_eq_true, if_false] at hframe
  exact ⟨hframe.periodAct, hframe.syncwAct, hframe.trigofsAct⟩

/-- Settles O40: the first service takes the pending record and leaves the block running, so that the second has a boundary
of its own, and XFER's steps between them write no register. -/
theorem shadowsGovernTheNextPeriod : Obligations.ShadowsGovernTheNextPeriod := by
  intro s s1 s2 k hrun hirq hfits h1 hfits1 h2
  have hs : s.serving = true := Bool.and_eq_true_iff.mpr ⟨hrun, hirq⟩
  have hframe := serviceBody_frame (serviceBody_of_tick hs hfits h1)
  rw [enterService_eq] at hframe
  have hs1 : s1.serving = true := by
    rw [State.serving, State.run, State.irqEn, hframe.ctrl]
    exact hs
  have hp1 : s1.tickPending = false := hframe.tickPending
  obtain ⟨hperiod, hsyncw, htrigofs⟩ :=
    tick_activates (by rw [xferSteps_eq]; exact hs1) hfits1 (by rw [xferSteps_eq]; exact hp1) h2
  rw [xferSteps_eq] at hperiod hsyncw htrigofs
  exact ⟨hperiod, hsyncw, htrigofs, fun hp => tick_activates hs hfits hp h1⟩

/-! ### What the parts before the dispatch leave for the call of `on_scanline` -/

/-- They leave the call BUF as it is, and PRODUCER's next answer. -/
structure BeforeCall (s s' : State) : Prop where
  buf : s'.buf = s.buf
  answer : s'.nextAnswer = s.nextAnswer

theorem BeforeCall.trans {s s1 s2 : State} (h1 : BeforeCall s s1) (h2 : BeforeCall s1 s2) : BeforeCall s s2 :=
  ⟨h2.buf.trans h1.buf, h2.answer.trans h1.answer⟩

theorem enterService_beforeCall (s : State) : BeforeCall s (enterService s) := by
  rw [enterService_eq]
  exact ⟨rfl, rfl⟩

theorem arbitrate_beforeCall {s s' : State} (h : arbitrate s = .next s') : BeforeCall s s' := by
  obtain ⟨_, _, _, rfl⟩ | ⟨_, rfl⟩ := arbitrate_eq_next h
  · exact ⟨rfl, rfl⟩
  · exact ⟨rfl, rfl⟩

theorem xferMeanwhile_beforeCall (s : State) : BeforeCall s (xferMeanwhile s) := by
  rw [xferMeanwhile_eq]
  exact ⟨rfl, rfl⟩

theorem advance_beforeCall {s s' : State} (h : advance s = .next s') : BeforeCall s s' := by
  obtain ⟨_, rfl⟩ | ⟨_, _, _, _, _, _, rfl⟩ | ⟨_, _, _, _, _, _, _, _, rfl⟩ := advance_eq_next h
  all_goals exact ⟨rfl, rfl⟩

/-! ### The instructions that touch neither memory -/

/-- The two memories of the block, the tables and BUF, are as before. -/
structure SameMemory (s s' : State) : Prop where
  cfg : s'.cfg = s.cfg
  buf : s'.buf = s.buf

theorem wrap_sameMemory {s s' : State} (h : wrap s = .next s') : SameMemory s s' := by
  obtain ⟨_, _, _, _, rfl⟩ := wrap_eq_next h
  exact ⟨rfl, rfl⟩

theorem acceptDescriptor_sameMemory {w : DescWord} {s s' : State} (h : acceptDescriptor w s = .next s') :
    SameMemory s s' := by
  obtain ⟨_, rfl⟩ | ⟨_, h⟩ := acceptDescriptor_eq_next h
  · exact ⟨rfl, rfl⟩
  · exact wrap_sameMemory h

theorem tell_sameMemory (s : State) (r : Reply) : SameMemory s (s.tell r) := ⟨rfl, rfl⟩

theorem execRdreg_eq_next {n : Byte} {s s' : State} (h : execRdreg n s = .next s') : ∃ v, s' = s.tell (.reg v) := by
  unfold execRdreg at h
  split at h
  · exact ⟨_, by cases h; rfl⟩
  · cases h

theorem waitFor_sameMemory (s : State) (x : Stimulus) : SameMemory s (s.waitFor x) :=
  ⟨State.waitFor_cfg s x, State.waitFor_buf s x⟩

theorem boundary_sameMemory (s : State) : SameMemory s (boundary s) := by
  unfold boundary
  split
  · exact ⟨rfl, rfl⟩
  · exact waitFor_sameMemory s _

theorem teardown_sameMemory (s : State) : SameMemory s (teardown s) := by
  unfold teardown
  split <;> exact ⟨rfl, rfl⟩

/-- Every instruction but the two that call `on_scanline`, by the inversion lemma of the operation it runs. -/
theorem exec_sameMemory {i : Instr} {s s' : State} (hproduce : i ≠ .produce) (htick : i ≠ .tick)
    (h : exec i s = .next s') : SameMemory s s' := by
  cases i with
  | endMark low => exact wrap_sameMemory h
  | pulse h' sh l a r n => exact acceptDescriptor_sameMemory h
  | long2 n => exact acceptDescriptor_sameMemory h
  | short2 n => exact acceptDescriptor_sameMemory h
  | blank n => exact acceptDescriptor_sameMemory h
  | active n => exact acceptDescriptor_sameMemory h
  | short n => exact acceptDescriptor_sameMemory h
  | shorthalf shs n => exact acceptDescriptor_sameMemory h
  | init std =>
    obtain ⟨_, _, _, _, _, _, rfl⟩ := construct_eq_next h
    exact ⟨rfl, rfl⟩
  | teardown => cases h; exact teardown_sameMemory s
  | rdreg n =>
    obtain ⟨v, rfl⟩ := execRdreg_eq_next h
    exact tell_sameMemory s _
  | rddiag => cases h; exact tell_sameMemory s _
  | hper => obtain ⟨t, _, ht⟩ := withTable_eq_next h; cases ht; exact tell_sameMemory s _
  | syncw => obtain ⟨t, _, ht⟩ := withTable_eq_next h; cases ht; exact tell_sameMemory s _
  | isact => cases h; exact tell_sameMemory s _
  | tick => exact absurd rfl htick
  | boundary => cases h; exact boundary_sameMemory s
  | arb => exact ⟨(arbitrate_frame h).cfg, (arbitrate_beforeCall h).buf⟩
  | step => exact ⟨(advance_frame h).cfg, (advance_beforeCall h).buf⟩
  | produce => exact absurd rfl hproduce
  | vblank => obtain ⟨_, _, rfl⟩ := vblank_eq_next h; exact ⟨rfl, rfl⟩
  | reprog => obtain ⟨_, _, rfl⟩ := reprogram_eq_next h; exact ⟨rfl, rfl⟩
  | diag => cases h; exact ⟨s.record_cfg, s.record_buf⟩
  | reserved => cases h; exact ⟨rfl, rfl⟩

/-! ### The tables -/

theorem service_cfg {s s' : State} (h : service s = .next s') : s'.cfg = s.cfg := by
  obtain ⟨_, rfl⟩ | ⟨_, _, hbody⟩ | ⟨_, _, rfl⟩ := service_eq_next h
  · rfl
  · rw [(serviceBody_frame hbody).cfg, enterService_eq]
  · exact State.waitFor_cfg s _

theorem exec_cfg {i : Instr} {s s' : State} (h : exec i s = .next s') : s'.cfg = s.cfg := by
  by_cases hproduce : i = .produce
  · subst hproduce
    exact (produce_frame h).cfg
  · by_cases htick : i = .tick
    · subst htick
      exact service_cfg h
    · exact (exec_sameMemory hproduce htick h).cfg

theorem lineRate_cfg {s s' : State} (h : lineRate s = .next s') : s'.cfg = s.cfg := by
  obtain ⟨_, rfl⟩ | ⟨_, _, _, rfl⟩ | ⟨_, _, _, rfl⟩ := lineRate_eq_next h
  · rfl
  · rfl
  · exact State.waitFor_cfg s _

theorem clockTick_cfg {s s' : State} (h : clockTick s = .next s') : s'.cfg = s.cfg := by
  have hdraw : s.countTickDraw.cfg = s.cfg := by rw [countTickDraw_eq]
  obtain ⟨_, rfl⟩ | ⟨_, _, h⟩ | ⟨_, _, _, h⟩ | ⟨_, _, _, rfl⟩ := clockTick_eq_next h
  · rfl
  · exact (lineRate_cfg h).trans hdraw
  · have hservice := service_cfg h
    exact hservice
  · exact hdraw

theorem runDecoded_cfg {r : Except DecodeError Instr} {s s' : State} (h : runDecoded r s = .next s') : s'.cfg = s.cfg := by
  cases r with
  | ok i => exact exec_cfg h
  | error e => cases h; rfl

theorem react_cfg {x : Stimulus} {s s' : State} (h : react x s = .next s') : s'.cfg = s.cfg := by
  cases x with
  | command w => exact runDecoded_cfg h
  | operation w => exact runDecoded_cfg h
  | descriptor w => exact exec_cfg (i := decodeDescriptor w) h
  | lineRate => exact lineRate_cfg h
  | clk => exact clockTick_cfg h
  | xfer => cases h; exact xferStep_cfg s
  | rst => cases h; exact State.clear_cfg s

/-- Settles O57: a step is a stimulus, a service or a tick of the clock. -/
theorem tablesAreNeverWritten : Obligations.TablesAreNeverWritten := by
  intro s s' h
  cases hin : s.inbox with
  | nil =>
    rw [step_nil hin, idle] at h
    split at h
    · exact service_cfg h
    · exact clockTick_cfg h
  | cons x rest =>
    rw [step_cons hin] at h
    have hreact := react_cfg h
    exact hreact

/-! ### BUF -/

/-- What happens during a call stores nothing at the address `x`. -/
def StoresElsewhere (acts : List CallAct) (x : Nat) : Prop :=
  ∀ (ad : Addr) (v : Byte), .write ad v ∈ acts → ad.toNat ≠ x

/-- A call changes no byte it does not store to. -/
theorem callActs_readByte {xs : List CallAct} {s s' : State} (h : callActs xs s = .next s') (hwf : s.buf.wf = true)
    {x : Nat} (hx : StoresElsewhere xs x) : readByte s'.buf x = readByte s.buf x := by
  induction xs generalizing s with
  | nil => cases h; rfl
  | cons act xs ih =>
    obtain ⟨s1, h1, h2⟩ := andThen_eq_next h
    have hxs : StoresElsewhere xs x := fun ad v hmem => hx ad v (List.mem_cons_of_mem _ hmem)
    cases act with
    | write a v =>
      obtain ⟨_, rfl⟩ := producerWrite_eq_next h1
      rw [ih h2 (Memory.wf_writeByte hwf a.isLt v) hxs, readByte_writeByte hwf, if_neg (hx a v List.mem_cons_self)]
    | xfer =>
      cases h1
      rw [ih h2 (by rwa [xferStep_buf]) hxs, xferStep_buf]

theorem produce_readByte {s s' : State} (h : produce s = .next s') (hwf : s.buf.wf = true) {x : Nat}
    (hx : StoresElsewhere s.nextAnswer.acts x) : readByte s'.buf x = readByte s.buf x := by
  obtain ⟨t, s1, _, hcall, rfl⟩ := produce_eq_next h
  rw [takeAnswer_eq] at hcall
  exact callActs_readByte hcall hwf hx

theorem dispatch_readByte {s s' : State} (h : dispatch s = .next s') (hwf : s.buf.wf = true) {x : Nat}
    (hx : StoresElsewhere s.nextAnswer.acts x) : readByte s'.buf x = readByte s.buf x := by
  obtain ⟨_, h⟩ | ⟨_, _, h⟩ | ⟨_, _, rfl⟩ := dispatch_eq_next h
  · exact produce_readByte h hwf hx
  · obtain ⟨_, _, rfl⟩ := vblank_eq_next h
    rfl
  · rfl

theorem serviceBody_readByte {s s' : State} (h : serviceBody s = .next s') (hwf : s.buf.wf = true) {x : Nat}
    (hx : StoresElsewhere s.nextAnswer.acts x) : readByte s'.buf x = readByte s.buf x := by
  obtain ⟨s1, s2, s3, t, h1, h2, h3, _, rfl⟩ := serviceBody_eq_next h
  have hbefore : BeforeCall s (xferMeanwhile s2) :=
    (arbitrate_beforeCall h1).trans <| (xferMeanwhile_beforeCall s1).trans <|
      (advance_beforeCall h2).trans (xferMeanwhile_beforeCall s2)
  have hafter : (xferMeanwhile ((xferMeanwhile s3).loadShadows t)).record.buf = s3.buf := by
    simp only [State.record_buf, (xferMeanwhile_beforeCall _).buf, State.loadShadows_buf]
  have hcall := dispatch_readByte h3 (hbefore.buf ▸ hwf) (hbefore.answer ▸ hx)
  rw [hafter, hcall, hbefore.buf]

theorem service_readByte {s s' : State} (h : service s = .next s') (hwf : s.buf.wf = true) {x : Nat}
    (hx : StoresElsewhere s.nextAnswer.acts x) : readByte s'.buf x = readByte s.buf x := by
  obtain ⟨_, rfl⟩ | ⟨_, _, hbody⟩ | ⟨_, _, rfl⟩ := service_eq_next h
  · rfl
  · have henter := enterService_beforeCall s
    rw [serviceBody_readByte hbody (henter.buf ▸ hwf) (henter.answer ▸ hx), henter.buf]
  · rw [State.waitFor_buf]

/-- Settles O58: the two instructions that call `on_scanline` write BUF by the call alone. -/
theorem onlyProducerWritesBuf : Obligations.OnlyProducerWritesBuf := by
  intro i s s' h
  have hother (hproduce : i ≠ .produce) (htick : i ≠ .tick) (x : Nat) : readByte s'.buf x = readByte s.buf x := by
    rw [(exec_sameMemory hproduce htick h).buf]
  refine ⟨hother, fun hwf x hx => ?_⟩
  by_cases hproduce : i = .produce
  · subst hproduce
    exact produce_readByte h hwf hx
  · by_cases htick : i = .tick
    · subst htick
      exact service_readByte h hwf hx
    · exact hother hproduce htick x

end Sys2Proof.Machine
end

section
/-! PROOF. Decode and encode agree (R92, R93, R100, R103). A PULSE and the six named kinds are the same thing, a duration and
a low byte, under different names (R103): the predicate `IsPulse` says so once, and every statement about the table words is
read off it. -/

namespace Sys2Proof.Machine

/-! ### The parts of a table word -/

/-- Every table word is a duration above a low byte. -/
theorem exists_descOfFlags (w : DescWord) : ∃ (n : Duration) (f : Byte), w = descOfFlags n f :=
  ⟨descDuration w, descFlags w, (descOfFlags_fields w).symm⟩

/-- A low byte is its four flags below its reserved bits. -/
theorem flagsByte_bits (f : Byte) : flagsByte f[0] f[1] f[2] f[3] (f.extractLsb' 4 4) = f := by
  revert f
  decide

/-- R93's mask 0xFF00 leaves the duration, in its place. -/
theorem descOfFlags_and_mask (n : Duration) (f : Byte) : descOfFlags n f &&& 0xFF00#16 = descOfFlags n 0 := by
  calc descOfFlags n f &&& descOfFlags (BitVec.allOnes 8) 0
      = descOfFlags (n &&& BitVec.allOnes 8) (f &&& 0) := BitVec.and_append
    _ = descOfFlags n 0 := by rw [BitVec.and_allOnes, show f &&& 0 = 0 from BitVec.and_zero]

theorem and_mask_eq_zero_iff (w : DescWord) : w &&& 0xFF00#16 = 0#16 ↔ descDuration w = 0 := by
  obtain ⟨n, f, rfl⟩ := exists_descOfFlags w
  rw [descOfFlags_and_mask, descDuration_descOfFlags]
  constructor
  · intro h
    rw [← descDuration_descOfFlags n 0, h]
    rfl
  · rintro rfl
    rfl

/-! ### One pulse under several names -/

/-- The decoder's name for the PULSE of duration `n` with low byte `f` (R103, log 10). -/
def pulseName (n : Duration) (f : Byte) : Instr :=
  (namedPulse f n).getD (.pulse f[0] f[1] f[2] f[3] (f.extractLsb' 4 4) n)

/-- The instruction is a name of the PULSE of duration `n` with low byte `f` (R103). -/
structure IsPulse (i : Instr) (n : Duration) (f : Byte) : Prop where
  encode_eq : encode i = (.table, descOfFlags n f)
  wf_eq : i.wf = (n != 0)
  canonical_eq : i.canonical = pulseName n f
  exec_eq (s : State) : exec i s = acceptDescriptor (descOfFlags n f) s

theorem isPulse_pulse (h sh l a : Bool) (r : BitVec 4) (n : Duration) :
    IsPulse (.pulse h sh l a r n) n (flagsByte h sh l a r) where
  encode_eq := rfl
  wf_eq := rfl
  canonical_eq := by simp [pulseName, Instr.canonical]
  exec_eq _ := rfl

theorem isPulse_long2 (n : Duration) : IsPulse (.long2 n) n 0x05 := ⟨rfl, rfl, rfl, fun _ => rfl⟩
theorem isPulse_short2 (n : Duration) : IsPulse (.short2 n) n 0x03 := ⟨rfl, rfl, rfl, fun _ => rfl⟩
theorem isPulse_blank (n : Duration) : IsPulse (.blank n) n 0x00 := ⟨rfl, rfl, rfl, fun _ => rfl⟩
theorem isPulse_active (n : Duration) : IsPulse (.active n) n 0x08 := ⟨rfl, rfl, rfl, fun _ => rfl⟩
theorem isPulse_short (n : Duration) : IsPulse (.short n) n 0x02 := ⟨rfl, rfl, rfl, fun _ => rfl⟩

/-- SHORT_HALF_S decides the flag `short_sync` of SHORTHALF. -/
theorem isPulse_shorthalf (shs : Bool) (n : Duration) : IsPulse (.shorthalf shs n) n (if shs then 0x03 else 0x01) := by
  cases shs with
  | true => exact ⟨rfl, rfl, rfl, fun _ => rfl⟩
  | false => exact ⟨rfl, rfl, rfl, fun _ => rfl⟩

/-- The six low bytes R103 names. -/
theorem isPulse_of_namedPulse {f : Byte} {n : Duration} {i : Instr} (h : namedPulse f n = some i) : IsPulse i n f := by
  unfold namedPulse at h
  split_ifs at h
  all_goals subst f; cases h
  · exact isPulse_long2 n
  · exact isPulse_short2 n
  · exact isPulse_blank n
  · exact isPulse_active n
  · exact isPulse_short n
  · exact isPulse_shorthalf false n

/-- The decoder's name for a PULSE is a name of it. -/
theorem isPulse_pulseName (n : Duration) (f : Byte) : IsPulse (pulseName n f) n f := by
  unfold pulseName
  cases hname : namedPulse f n with
  | some i => exact isPulse_of_namedPulse hname
  | none =>
    have hpulse := isPulse_pulse f[0] f[1] f[2] f[3] (f.extractLsb' 4 4) n
    rwa [flagsByte_bits] at hpulse

/-- A table instruction is END or a pulse under one of its names. -/
theorem endMark_or_isPulse {i : Instr} (hf : i.format = .table) : (∃ low, i = .endMark low) ∨ ∃ n f, IsPulse i n f := by
  cases i with
  | endMark low => exact .inl ⟨low, rfl⟩
  | pulse h sh l a r n => exact .inr ⟨_, _, isPulse_pulse ..⟩
  | long2 n => exact .inr ⟨_, _, isPulse_long2 n⟩
  | short2 n => exact .inr ⟨_, _, isPulse_short2 n⟩
  | blank n => exact .inr ⟨_, _, isPulse_blank n⟩
  | active n => exact .inr ⟨_, _, isPulse_active n⟩
  | short n => exact .inr ⟨_, _, isPulse_short n⟩
  | shorthalf shs n => exact .inr ⟨_, _, isPulse_shorthalf shs n⟩
  | _ => cases hf

/-! ### The decoder on a table word -/

theorem decodeDescriptor_of_end {w : DescWord} (h : descDuration w = 0) : decodeDescriptor w = .endMark (descFlags w) :=
  if_pos h

/-- Where the duration is not 0 the decoder answers its name for the PULSE (R93, R103). -/
theorem decodeDescriptor_of_pulse {w : DescWord} (h : descDuration w ≠ 0) :
    decodeDescriptor w = pulseName (descDuration w) (descFlags w) := by
  obtain ⟨n, f, rfl⟩ := exists_descOfFlags w
  rw [decodeDescriptor, if_neg h, pulseName, namedPulse]
  simp only [descDuration_descOfFlags, descFlags_descOfFlags, descHalf_descOfFlags, descShort_descOfFlags,
    descLong_descOfFlags, descActive_descOfFlags, descRsv_descOfFlags]
  split_ifs
  all_goals rfl

/-- It is the decoder's name for the PULSE with the word's own fields. -/
theorem canonical_pulse_fields (w : DescWord) :
    (Instr.pulse (descHalf w) (descShort w) (descLong w) (descActive w) (descRsv w) (descDuration w)).canonical =
      pulseName (descDuration w) (descFlags w) := by
  obtain ⟨n, f, rfl⟩ := exists_descOfFlags w
  rw [(isPulse_pulse ..).canonical_eq]
  simp [flagsByte_bits]

/-- The word of a well-formed table instruction decodes to it, under the decoder's name for it. -/
theorem decodeDescriptor_word {i : Instr} (hf : i.format = .table) (hwf : i.wf = true) :
    decodeDescriptor i.word = i.canonical := by
  obtain ⟨low, rfl⟩ | ⟨n, f, hi⟩ := endMark_or_isPulse hf
  · show decodeDescriptor (descOfFlags 0 low) = .endMark low
    rw [decodeDescriptor_of_end (descDuration_descOfFlags 0 low), descFlags_descOfFlags]
  · have hn : n ≠ 0 := by simpa [hi.wf_eq] using hwf
    have hword : i.word = descOfFlags n f := congrArg Prod.snd hi.encode_eq
    rw [hword, hi.canonical_eq, decodeDescriptor_of_pulse (by rwa [descDuration_descOfFlags]), descDuration_descOfFlags,
      descFlags_descOfFlags]

/-! ### The decoder on an operation word -/

theorem decodeOperation_init (std : Std) : decodeOperation (opWord 0x1 (std.setWidth 8)) = .ok (.init std) := by
  have hhigh : (std.setWidth 8).extractLsb' 2 6 = 0#6 := by revert std; decide
  have hlow : (std.setWidth 8).extractLsb' 0 2 = std := by revert std; decide
  simp [decodeOperation, hhigh, hlow]

theorem decodeOperation_rdreg (n : Byte) : decodeOperation (opWord 0x3 n) = .ok (.rdreg n) := by
  simp [decodeOperation]

/-- The operations without an operand, by their id (R100). -/
theorem decodeOperation_of_plainOperation {k : BitVec 4} {i : Instr} (h : plainOperation k = some i) :
    decodeOperation (opWord k 0) = .ok i := by
  have h1 : k ≠ 0x1#4 := by rintro rfl; cases h
  have h3 : k ≠ 0x3#4 := by rintro rfl; cases h
  simp [decodeOperation, h1, h3, h]

/-- The word of an operation decodes to it; no two operations share a word (R100). -/
theorem decodeOperation_word {i : Instr} (hf : i.format = .operation) : decodeOperation i.word = .ok i.canonical := by
  cases i with
  | init std => exact decodeOperation_init std
  | rdreg n => exact decodeOperation_rdreg n
  | teardown | rddiag | hper | syncw | isact | tick | boundary | arb | step | produce | vblank | reprog | diag | reserved =>
    exact decodeOperation_of_plainOperation rfl
  | shorthalf shs n => cases shs with
    | true => cases hf
    | false => cases hf
  | _ => cases hf

/-! ### The decoder on bytes -/

theorem decodeBytes_table (b0 b1 : Byte) (rest : List Byte) :
    decodeBytes .table (b0 :: b1 :: rest) = .ok (decodeDescriptor (b1 ++ b0), rest) := rfl

theorem decodeBytes_operation_eq_ok {b0 b1 : Byte} {rest rest' : List Byte} {i : Instr} :
    decodeBytes .operation (b0 :: b1 :: rest) = .ok (i, rest') ↔ decodeOperation (b1 ++ b0) = .ok i ∧ rest = rest' := by
  cases hdec : decodeOperation (b1 ++ b0) with
  | ok j => simp [decodeBytes, hdec]
  | error e => simp [decodeBytes, hdec]

/-- The two bytes of a word, put together again. -/
theorem append_bytes (w : BitVec 16) : w.extractLsb' 8 8 ++ w.extractLsb' 0 8 = w := descOfFlags_fields w

/-- Settles O3: the two bytes are the instruction's word again, and its format says which decoder reads it. -/
theorem everyInstructionDecodesFromItsBytes : Obligations.EveryInstructionDecodesFromItsBytes := by
  intro i rest hwf
  show decodeBytes i.format (i.word.extractLsb' 0 8 :: i.word.extractLsb' 8 8 :: rest) = _
  cases hf : i.format with
  | table => rw [decodeBytes_table, append_bytes, decodeDescriptor_word hf hwf]
  | operation => exact decodeBytes_operation_eq_ok.mpr ⟨by rw [append_bytes, decodeOperation_word hf], rfl⟩

/-! ### Every table word -/

/-- Settles O2: the masked word is 0 exactly when the duration is. -/
theorem durationDecidesEndAndPulse : Obligations.DurationDecidesEndAndPulse := by
  intro w
  rw [ne_eq, and_mask_eq_zero_iff]
  refine ⟨fun hend => decodeDescriptor_of_end hend, fun hpulse => ?_⟩
  exact (decodeDescriptor_of_pulse hpulse).trans (canonical_pulse_fields w).symm

/-- Settles O5: END keeps its low byte, and the decoder's name for a PULSE is encoded by the PULSE's word. -/
theorem everyTableWordIsAnEncoding : Obligations.EveryTableWordIsAnEncoding := by
  intro w
  by_cases hn : descDuration w = 0
  · have hword := descOfFlags_fields w
    rw [hn] at hword
    rw [decodeDescriptor_of_end hn]
    exact ⟨congrArg (Format.table, ·) hword, rfl⟩
  · have hname := isPulse_pulseName (descDuration w) (descFlags w)
    rw [decodeDescriptor_of_pulse hn, hname.encode_eq, hname.wf_eq, descOfFlags_fields]
    exact ⟨rfl, bne_iff_ne.mpr hn⟩

/-! ### The decoder's name -/

/-- The decoder renames nothing but pulses (log 10). -/
theorem canonical_eq_self_or_isPulse (i : Instr) : i.canonical = i ∨ ∃ n f, IsPulse i n f := by
  cases i with
  | pulse h sh l a r n => exact .inr ⟨_, _, isPulse_pulse ..⟩
  | shorthalf shs n => exact .inr ⟨_, _, isPulse_shorthalf shs n⟩
  | _ => exact .inl rfl

/-- Settles O4: a renamed instruction and the decoder's name for it are names of one pulse. -/
theorem sharedNamesMeanTheSame : Obligations.SharedNamesMeanTheSame := by
  intro i s
  obtain hself | ⟨n, f, hi⟩ := canonical_eq_self_or_isPulse i
  · rw [hself]
    exact ⟨rfl, rfl⟩
  · have hname := isPulse_pulseName n f
    rw [hi.canonical_eq, hname.encode_eq, hi.encode_eq, hname.exec_eq, hi.exec_eq]
    exact ⟨rfl, rfl⟩

/-! ### Words written out from the tables -/

/-- Settles O1: sixteen fixed words, evaluated. -/
theorem tabulatedWordsDecode : Obligations.TabulatedWordsDecode := by
  unfold Obligations.TabulatedWordsDecode
  decide

end Sys2Proof.Machine
end

section
/-! PROOF. A step runs the instruction its next input decodes to (R100, R101; log 3, log 11), and what the named kinds do to
the context (R103, R131). -/

namespace Sys2Proof.Machine

/-! ### A decoded word runs -/

theorem runDecoded_of_ok {r : Except DecodeError Instr} {i : Instr} (h : r = .ok i) (s : State) :
    runDecoded r s = exec i s := by
  rw [h]
  rfl

theorem runDecoded_of_error {r : Except DecodeError Instr} {e : DecodeError} (h : r = .error e) (s : State) :
    runDecoded r s = .next s := by
  rw [h]
  rfl

/-- Settles O6: the head of the inbox says which decoder reads the word, and what was decoded runs. -/
theorem stepRunsTheDecodedInstruction : Obligations.StepRunsTheDecodedInstruction := by
  intro s rest w
  refine ⟨fun hin => step_cons hin, fun i hi hin => ?_, fun i hi hin => ?_, fun e he hin => ?_, fun e he hin => ?_⟩
  · exact (step_cons hin).trans (runDecoded_of_ok hi _)
  · exact (step_cons hin).trans (runDecoded_of_ok hi _)
  · exact (step_cons hin).trans (runDecoded_of_error he _)
  · exact (step_cons hin).trans (runDecoded_of_error he _)

/-! ### HOST's command port -/

/-- An id that is no HOST command is read as the reserved id, whatever the other bits (R101). -/
theorem decodeCommand_of_not_host {w : OpWord} (h : opId w = 0#4 ∨ 5#4 ≤ opId w) : decodeCommand w = .ok .reserved := by
  have hid : ¬ (0x1#4 ≤ opId w ∧ opId w ≤ 0x4#4) := by
    generalize opId w = k at h ⊢
    revert k
    decide
  exact if_neg hid

/-- Settles O49: what the port ignores runs as the reserved operation, which answers the state it is given. -/
theorem otherCommandsAreIgnored : Obligations.OtherCommandsAreIgnored := by
  intro s w rest
  refine ⟨rfl, fun hin hid => ?_⟩
  have hreserved : step s = exec .reserved { s with inbox := rest } :=
    (step_cons hin).trans (runDecoded_of_ok (decodeCommand_of_not_host hid) _)
  exact hreserved

/-! ### The word that withFetchWord places -/

/-- The two low bytes of a number are its 16-bit word. -/
theorem ofNat_append_bytes (w : Nat) : BitVec.ofNat 8 (w / 256) ++ BitVec.ofNat 8 w = BitVec.ofNat 16 w := by
  rw [← append_bytes (BitVec.ofNat 16 w)]
  congr 1
  all_goals
    apply BitVec.eq_of_toNat_eq
    simp only [BitVec.toNat_ofNat, BitVec.extractLsb'_toNat, Nat.shiftRight_eq_div_pow]
    omega

/-- A row of at most 8 bits is read by the decoder of operations, a longer one by the decoder of table words. -/
theorem decodeTableWord_eq_some {nbits w : Nat} {i : Instr} (h : decodeTableWord nbits w = some i) :
    (nbits ≤ 8 ∧ decodeOperation (BitVec.ofNat 16 w) = .ok i) ∨
    (¬ nbits ≤ 8 ∧ decodeDescriptor (BitVec.ofNat 16 w) = i) := by
  unfold decodeTableWord at h
  split at h
  · cases h
  by_cases hbits : nbits ≤ 8
  · simp only [if_pos hbits] at h
    split at h
    · rename_i hdec
      cases h
      obtain ⟨hword, _⟩ := decodeBytes_operation_eq_ok.mp hdec
      rw [ofNat_append_bytes] at hword
      exact .inl ⟨hbits, hword⟩
    · cases h
  · rw [if_neg hbits] at h
    cases h
    rw [ofNat_append_bytes]
    exact .inr ⟨hbits, rfl⟩

/-- Settles O7: the placed stimulus is of the kind whose decoder read the bits, and taking it out leaves the state it was
placed in. -/
theorem placedWordRunsNext : Obligations.PlacedWordRunsNext := by
  intro s nbits w i h
  have hplaced : step (s.withFetchWord nbits w) = react (fetchStimulus nbits w) s := step_cons rfl
  rw [hplaced, fetchStimulus]
  obtain ⟨hbits, hdec⟩ | ⟨hbits, hdec⟩ := decodeTableWord_eq_some h
  · rw [if_pos hbits]
    exact runDecoded_of_ok hdec s
  · rw [if_neg hbits, ← hdec]
    rfl

/-! ### A pulse becomes current -/

/-- A name of the PULSE of duration `n` with low byte `f` makes it current at the next index; its flag `active` decides
whether LINE goes on (R131, R144). -/
theorem IsPulse.exec_eq_next {i : Instr} {n : Duration} {f : Byte} (hi : IsPulse i n f) (hn : n ≠ 0) (s : State) :
    exec i s = .next
      { s with pidx := s.pidx + 1, cpulse := n ++ f, pcnt := n, line := if f[3] = s.cpulse.getLsbD 3 then s.line else 0 } := by
  have haccept : exec i s = .next (s.makeCurrent (s.pidx + 1) (descOfFlags n f)) := by
    rw [hi.exec_eq, acceptDescriptor, if_neg (by rwa [descDuration_descOfFlags])]
  rw [haccept, State.makeCurrent, descDuration_descOfFlags, descActive_descOfFlags]
  rfl

/-- Settles O11: each named kind is a pulse with the low byte of R103. -/
theorem namedKindsBecomeCurrent : Obligations.NamedKindsBecomeCurrent := by
  intro s n hn
  exact ⟨(isPulse_long2 n).exec_eq_next hn s, (isPulse_short2 n).exec_eq_next hn s, (isPulse_blank n).exec_eq_next hn s,
    (isPulse_active n).exec_eq_next hn s, (isPulse_short n).exec_eq_next hn s,
    (isPulse_shorthalf true n).exec_eq_next hn s, (isPulse_shorthalf false n).exec_eq_next hn s⟩

end Sys2Proof.Machine
end

section
/-! PROOF. What the sequencer does in each of its cases (R130, R131, R140 to R144): an equation for each outcome of the
wrap and of STEP, and END, PULSE and the fetch past the table read off them. -/

namespace Sys2Proof.Machine

theorem fetch_zero (t : PulseTable) : t.fetch 0 = t.desc.head? := List.head?_eq_getElem?.symm

/-! ### The wrap, and STEP's three ways -/

theorem wrap_of_fetch_some {s : State} {t : PulseTable} {w : DescWord} (ht : s.table? = some t) (hw : t.fetch 0 = some w) :
    wrap s = .next (s.makeCurrent 0 w) := by
  simp only [wrap, withTable_some ht, hw]

theorem acceptDescriptor_of_pulse {w : DescWord} (hd : descDuration w ≠ 0) (s : State) :
    acceptDescriptor w s = .next (s.makeCurrent (s.pidx + 1) w) := if_neg hd

theorem acceptDescriptor_of_end {w : DescWord} (hd : descDuration w = 0) (s : State) :
    acceptDescriptor w s = wrap s := if_pos hd

theorem advance_of_units_left {s : State} (hp : s.pcnt ≠ 1) : advance s = .next s.countDown := by
  have hleft : s.countDown.pcnt ≠ 0 := fun h => hp (sub_eq_zero.mp h)
  exact if_pos hleft

theorem advance_of_fetch_some {s : State} {t : PulseTable} {w : DescWord} (hp : s.pcnt = 1) (ht : s.table? = some t)
    (hw : t.fetch (s.pidx + 1) = some w) : advance s = acceptDescriptor w s.countDown := by
  have hdone : ¬ s.countDown.pcnt ≠ 0 := not_not_intro (sub_eq_zero.mpr hp)
  rw [advance, if_neg hdone, withTable_some (s := s.countDown) ht]
  simp only [State.countDown_pidx, hw]

theorem advance_of_fetch_none {s : State} {t : PulseTable} (hp : s.pcnt = 1) (ht : s.table? = some t)
    (hw : t.fetch (s.pidx + 1) = none) : advance s = .refused (.invalidTable s.std .v1) := by
  have hdone : ¬ s.countDown.pcnt ≠ 0 := not_not_intro (sub_eq_zero.mpr hp)
  rw [advance, if_neg hdone, withTable_some (s := s.countDown) ht]
  simp only [State.countDown_pidx, hw]

/-! ### END, PULSE, and a fetch past the table -/

/-- Settles O9: END is the wrap, whatever its low byte. -/
theorem endWrapsToTheFirstDescriptor : Obligations.EndWrapsToTheFirstDescriptor := by
  intro s low t w ht hw
  exact wrap_of_fetch_some ht ((fetch_zero t).trans hw)

/-- Settles O10: the word is the one of R92, and it is accepted as a pulse. -/
theorem pulseBecomesCurrent : Obligations.PulseBecomesCurrent := by
  intro s h sh l a r n hn
  refine ⟨descWord h sh l a r n, ?_, descHalf_descWord h sh l a r n, descShort_descWord h sh l a r n,
    descLong_descWord h sh l a r n, descActive_descWord h sh l a r n, descRsv_descWord h sh l a r n,
    descDuration_descWord h sh l a r n⟩
  have hexec := (isPulse_pulse h sh l a r n).exec_eq_next hn s
  rwa [flagsByte_bit3] at hexec

/-- Settles O15: nothing is fetched past the table. -/
theorem stepRefusesPastTheTable : Obligations.StepRefusesPastTheTable :=
  fun _ _ hp ht hw => advance_of_fetch_none hp ht hw

end Sys2Proof.Machine
end

section
/-! PROOF. The walk of a valid table (R125, R145). A context on the table stands at a pulse unit of the cycle, counted by
`State.unitsElapsed`; every STEP goes to the next one, modulo `U(T)`, and the first context is the only one at unit 0. -/

namespace Sys2Proof.Machine

/-! ### Sums of durations -/

theorem durationSum_append (ws ws' : List DescWord) : durationSum (ws ++ ws') = durationSum ws + durationSum ws' := by
  simp [durationSum]

theorem durationSum_take_succ {ws : List DescWord} {i : Nat} {w : DescWord} (hw : ws[i]? = some w) :
    durationSum (ws.take (i + 1)) = durationSum (ws.take i) + (descDuration w).toNat := by
  rw [List.take_add_one, hw, durationSum_append]
  simp [durationSum]

theorem durationSum_take_le (ws : List DescWord) (i : Nat) : durationSum (ws.take i) ≤ durationSum ws := by
  calc durationSum (ws.take i)
      ≤ durationSum (ws.take i) + durationSum (ws.drop i) := Nat.le_add_right _ _
    _ = durationSum ws := by rw [← durationSum_append, List.take_append_drop]

/-! ### A context on a table -/

/-- The context describes a unit of an entry of the selected, valid table `t`: `State.contextFits` with a name for each
clause. -/
structure OnTable (t : PulseTable) (s : State) : Prop where
  table : s.table? = some t
  valid : t.valid = true
  index_lt : s.pidx.toNat + 1 < t.desc.length
  current : t.fetch s.pidx = some s.cpulse
  pcnt_pos : 1 ≤ s.pcnt.toNat
  pcnt_le : s.pcnt.toNat ≤ (descDuration s.cpulse).toNat

theorem onTable_iff (t : PulseTable) (s : State) : OnTable t s ↔ s.table? = some t ∧ s.contextFits = true := by
  rw [contextFits_iff]
  constructor
  · intro h
    exact ⟨h.table, t, h.table, h.valid, h.index_lt, h.current, h.pcnt_pos, h.pcnt_le⟩
  · rintro ⟨ht, t', ht', hv, hi, hw, hlo, hhi⟩
    cases ht.symm.trans ht'
    exact ⟨ht, hv, hi, hw, hlo, hhi⟩

section
variable {t : PulseTable} {s s' : State}

/-- V5: the index after a PULSE's does not overflow PIDX. -/
theorem OnTable.toNat_next_index (h : OnTable t s) : (s.pidx + 1).toNat = s.pidx.toNat + 1 := by
  have h5 : t.desc.length ≤ 2 ^ Config.indexW := by simpa [PulseTable.passes] using valid_passes h.valid .v5
  exact BitVec.toNat_add_of_lt (h.index_lt.trans_le h5)

/-- V1: after a PULSE there is an entry to fetch. -/
theorem OnTable.exists_next_entry (h : OnTable t s) : ∃ w, t.fetch (s.pidx + 1) = some w := by
  rw [PulseTable.fetch, h.toNat_next_index]
  exact ⟨_, List.getElem?_eq_getElem h.index_lt⟩

/-- V2: there is a first entry. -/
theorem OnTable.exists_first_entry (h : OnTable t s) : ∃ w, t.fetch 0 = some w :=
  ⟨_, List.getElem?_eq_getElem (Nat.zero_lt_of_lt h.index_lt)⟩

/-- STEP goes through (R145): in a descriptor it counts, at its end it finds a PULSE to enter or END, where it wraps. -/
theorem OnTable.exists_advance (h : OnTable t s) : ∃ s', advance s = .next s' := by
  by_cases hp : s.pcnt = 1
  · obtain ⟨w, hw⟩ := h.exists_next_entry
    rw [advance_of_fetch_some hp h.table hw]
    by_cases hd : descDuration w = 0
    · obtain ⟨w0, hw0⟩ := h.exists_first_entry
      rw [acceptDescriptor_of_end hd, wrap_of_fetch_some (s := s.countDown) h.table hw0]
      exact ⟨_, rfl⟩
    · exact ⟨_, acceptDescriptor_of_pulse hd s.countDown⟩
  · exact ⟨_, advance_of_units_left hp⟩

theorem advance_table? (h : advance s = .next s') : s'.table? = s.table? := by
  obtain ⟨_, rfl⟩ | ⟨_, _, _, _, _, _, rfl⟩ | ⟨_, _, _, _, _, _, _, _, rfl⟩ := advance_eq_next h
  all_goals rfl

theorem OnTable.advance (hs : OnTable t s) (h : advance s = .next s') : OnTable t s' := by
  obtain ⟨ht, hc⟩ := (onTable_iff t s).mp hs
  exact (onTable_iff t s').mpr ⟨(advance_table? h).trans ht, contextFits_advance h hc⟩

/-! ### The pulse unit a context stands at -/

/-- How many pulse units of the cycle are over: those of the entries before the current one, and those of the current one
that PCNT does not count any more. -/
def State.unitsElapsed (t : PulseTable) (s : State) : Nat :=
  durationSum (t.desc.take s.pidx.toNat) + ((descDuration s.cpulse).toNat - s.pcnt.toNat)

theorem unitsElapsed_of_entry (hc : s.pcnt = descDuration s.cpulse) :
    s.unitsElapsed t = durationSum (t.desc.take s.pidx.toNat) := by
  rw [State.unitsElapsed, hc, Nat.sub_self, Nat.add_zero]

theorem OnTable.durationSum_take_next (h : OnTable t s) :
    durationSum (t.desc.take (s.pidx.toNat + 1)) =
      durationSum (t.desc.take s.pidx.toNat) + (descDuration s.cpulse).toNat :=
  durationSum_take_succ h.current

theorem OnTable.unitsElapsed_lt (h : OnTable t s) : s.unitsElapsed t < t.unitsPerCycle := by
  have hle : durationSum (t.desc.take (s.pidx.toNat + 1)) ≤ t.unitsPerCycle := durationSum_take_le t.desc _
  rw [h.durationSum_take_next] at hle
  have hpos := h.pcnt_pos
  have hmax := h.pcnt_le
  unfold State.unitsElapsed
  omega

/-- Inside a descriptor STEP goes to its next unit. -/
theorem OnTable.unitsElapsed_countDown (h : OnTable t s) : s.countDown.unitsElapsed t = s.unitsElapsed t + 1 := by
  have hcount : (s.pcnt - 1).toNat = s.pcnt.toNat - 1 := BitVec.toNat_sub_of_le h.pcnt_pos
  have hpos := h.pcnt_pos
  have hmax := h.pcnt_le
  simp only [State.unitsElapsed, State.countDown_pidx, State.countDown_cpulse, State.countDown_pcnt, hcount]
  omega

/-- On the last unit of a descriptor, the units up to the next entry are over with this one. -/
theorem OnTable.unitsElapsed_at_last_unit (h : OnTable t s) (hp : s.pcnt = 1) :
    s.unitsElapsed t + 1 = durationSum (t.desc.take (s.pidx + 1).toNat) := by
  have hone : s.pcnt.toNat = 1 := congrArg BitVec.toNat hp
  have hmax := h.pcnt_le
  rw [h.toNat_next_index, h.durationSum_take_next, State.unitsElapsed]
  omega

/-- V1: END is the last entry, and the entries before it have all the units. -/
theorem OnTable.durationSum_before_end (h : OnTable t s) {w : DescWord} (hw : t.fetch (s.pidx + 1) = some w)
    (hd : descDuration w = 0) : durationSum (t.desc.take (s.pidx + 1).toNat) = t.unitsPerCycle := by
  have hlast : t.desc.length ≤ (s.pidx + 1).toNat + 1 := by
    by_contra hlt
    exact descDuration_ne_zero h.valid (Nat.lt_of_not_le hlt) hw hd
  have hsum : durationSum (t.desc.take ((s.pidx + 1).toNat + 1)) =
      durationSum (t.desc.take (s.pidx + 1).toNat) + (descDuration w).toNat := durationSum_take_succ hw
  rw [List.take_of_length_le hlast, hd] at hsum
  exact hsum.symm

/-- Each STEP goes one unit on; with the last unit of the cycle it is at unit 0 again. -/
theorem OnTable.unitsElapsed_advance (hs : OnTable t s) (h : Machine.advance s = .next s') :
    s'.unitsElapsed t = (s.unitsElapsed t + 1) % t.unitsPerCycle := by
  have hlt : s'.unitsElapsed t < t.unitsPerCycle := (hs.advance h).unitsElapsed_lt
  obtain ⟨_, rfl⟩ | ⟨t', w, hz, _, _, _, rfl⟩ | ⟨t', w, w0, hz, ht', hw, hd, _, rfl⟩ := advance_eq_next h
  case inl =>
    rw [← hs.unitsElapsed_countDown, Nat.mod_eq_of_lt hlt]
  case inr.inl =>
    rw [hs.unitsElapsed_at_last_unit (sub_eq_zero.mp hz), ← Nat.mod_eq_of_lt hlt, unitsElapsed_of_entry rfl]
    rfl
  case inr.inr =>
    cases hs.table.symm.trans ht'
    rw [hs.unitsElapsed_at_last_unit (sub_eq_zero.mp hz), hs.durationSum_before_end hw hd, Nat.mod_self,
      unitsElapsed_of_entry rfl]
    rfl

/-- V2: the first entry has a duration, so that units are over once a later entry is current. -/
theorem OnTable.durationSum_before_pos (h : OnTable t s) {w : DescWord} (hw : t.fetch 0 = some w) (hi : s.pidx ≠ 0) :
    0 < durationSum (t.desc.take s.pidx.toNat) := by
  have hindex : 1 ≤ s.pidx.toNat := Nat.one_le_iff_ne_zero.mpr fun h0 => hi (BitVec.eq_of_toNat_eq h0)
  have hdur : (descDuration w).toNat ≠ 0 := fun h0 => descDuration_of_first h.valid hw (BitVec.eq_of_toNat_eq h0)
  calc 0 < durationSum (t.desc.take 0) + (descDuration w).toNat := by omega
    _ = durationSum (t.desc.take 1) := (durationSum_take_succ hw).symm
    _ = durationSum ((t.desc.take s.pidx.toNat).take 1) := by rw [List.take_take, Nat.min_eq_left hindex]
    _ ≤ durationSum (t.desc.take s.pidx.toNat) := durationSum_take_le _ 1

/-- The context at unit 0 is the one INIT constructs: the first entry is current, and all of it is left. -/
theorem OnTable.unitsElapsed_eq_zero_iff (h : OnTable t s) {w : DescWord} (hw : t.fetch 0 = some w) :
    s.unitsElapsed t = 0 ↔ s.pidx = 0 ∧ s.cpulse = w ∧ s.pcnt = descDuration w := by
  constructor
  · intro hzero
    obtain ⟨hbefore, hover⟩ := Nat.add_eq_zero_iff.mp hzero
    have hpidx : s.pidx = 0 := by
      by_contra hne
      exact (h.durationSum_before_pos hw hne).ne' hbefore
    have hcpulse : s.cpulse = w := Option.some.inj ((hpidx ▸ h.current).symm.trans hw)
    refine ⟨hpidx, hcpulse, ?_⟩
    rw [← hcpulse]
    exact BitVec.eq_of_toNat_eq (h.pcnt_le.antisymm (Nat.sub_eq_zero_iff_le.mp hover))
  · rintro ⟨hpidx, rfl, hpcnt⟩
    rw [unitsElapsed_of_entry hpcnt, hpidx]
    rfl

/-- From a context on the table the walk goes through for any number of STEPs, and each goes one unit on. -/
theorem OnTable.walk (h : OnTable t s) (k : Nat) :
    ∃ s', walk k s = .next s' ∧ OnTable t s' ∧ s'.unitsElapsed t = (s.unitsElapsed t + k) % t.unitsPerCycle := by
  induction k generalizing s with
  | zero => exact ⟨s, rfl, h, (Nat.mod_eq_of_lt h.unitsElapsed_lt).symm⟩
  | succ k ih =>
    obtain ⟨s1, h1⟩ := h.exists_advance
    obtain ⟨s', hwalk, hs', hunits⟩ := ih (h.advance h1)
    refine ⟨s', ?_, hs', ?_⟩
    · have hstep : exec .step s = .next s1 := h1
      rw [Machine.walk, hstep, andThen_next, hwalk]
    · rw [hunits, h.unitsElapsed_advance h1, Nat.mod_add_mod, Nat.add_right_comm, Nat.add_assoc]

end

/-- Settles O18: after `k` STEPs from unit 0 the context is at unit `k` modulo `U(T)`. -/
theorem walkReturnsAfterExactlyOneCycle : Obligations.WalkReturnsAfterExactlyOneCycle := by
  intro s t w ht hv hhead hpidx hcpulse hpcnt
  have hfirst : t.fetch 0 = some w := (fetch_zero t).trans hhead
  have hcontext : s.contextFits = true := by
    refine contextFits_of_entry ht hv ?_ ?_ (hcpulse ▸ hpcnt)
    · rw [hpidx, hcpulse, hfirst]
    · exact hcpulse ▸ descDuration_of_first hv hfirst
  have hon : OnTable t s := (onTable_iff t s).mpr ⟨ht, hcontext⟩
  have hzero : s.unitsElapsed t = 0 := (hon.unitsElapsed_eq_zero_iff hfirst).mpr ⟨hpidx, hcpulse, hpcnt⟩
  constructor
  · obtain ⟨s', hwalk, hs', hunits⟩ := hon.walk t.unitsPerCycle
    rw [hzero, Nat.zero_add, Nat.mod_self] at hunits
    exact ⟨s', hwalk, (hs'.unitsElapsed_eq_zero_iff hfirst).mp hunits⟩
  · intro k s' hpos hlt hwalk hback
    obtain ⟨s'', hwalk', hs', hunits⟩ := hon.walk k
    cases hwalk.symm.trans hwalk'
    rw [hzero, Nat.zero_add, Nat.mod_eq_of_lt hlt, (hs'.unitsElapsed_eq_zero_iff hfirst).mpr hback] at hunits
    exact hpos.ne hunits

end Sys2Proof.Machine
end

section
/-! PROOF. The documented table of standard 0 is valid (R123, R127). The checks read the descriptor list and the declared
line count alone, so that the two lists of R127 are checked with any tick constants. -/

namespace Sys2Proof.Machine

theorem passes_congr {t t' : PulseTable} (hdesc : t.desc = t'.desc) (hlines : t.totalLines = t'.totalLines)
    (c : TableCheck) : t.passes c = t'.passes c := by
  obtain ⟨_, _, _, _, desc, totalLines⟩ := t
  cases hdesc
  cases hlines
  cases c <;> rfl

theorem valid_congr {t t' : PulseTable} (hdesc : t.desc = t'.desc) (hlines : t.totalLines = t'.totalLines) :
    t.valid = t'.valid :=
  congrArg tableChecks.all (funext (passes_congr hdesc hlines))

/-- The list of R127 with its declared line count and no tick constants. -/
def documentedSequence (shs : Bool) : PulseTable :=
  { horizontalPeriod := 0, syncShort := 0, syncNormal := 0, syncLong := 0, desc := documentedDescriptors shs,
    totalLines := 625 }

theorem documentedSequence_valid (shs : Bool) : (documentedSequence shs).valid = true := by
  revert shs
  decide

theorem documentedSequence_unitsPerCycle (shs : Bool) : (documentedSequence shs).unitsPerCycle = 640 := by
  revert shs
  decide

/-- Settles O20: any tick constants leave the checks and the sum of R127's list as they are. -/
theorem documentedTableIsValid : Obligations.DocumentedTableIsValid :=
  fun _ _ _ _ shs => ⟨(valid_congr rfl rfl).trans (documentedSequence_valid shs), documentedSequence_unitsPerCycle shs⟩

end Sys2Proof.Machine
end

section
/-! PROOF. STEP (R140 to R145): what it does in each of its ways, what every STEP does to LINE, and what it keeps. -/

namespace Sys2Proof.Machine

/-! ### STEP's three ways -/

/-- Settles O12: units of the descriptor are left. -/
theorem stepCountsDown : Obligations.StepCountsDown := fun _ hp => advance_of_units_left hp

/-- Settles O13: the fetched PULSE is accepted at the next index, after the count. -/
theorem stepAdvancesToTheNextDescriptor : Obligations.StepAdvancesToTheNextDescriptor := by
  intro s t w hp ht hw hd
  exact (advance_of_fetch_some hp ht hw).trans (acceptDescriptor_of_pulse hd s.countDown)

/-- Settles O14: the fetched END is accepted as the wrap, after the count. -/
theorem stepWrapsAtEnd : Obligations.StepWrapsAtEnd := by
  intro s t w w0 hp ht hw hd hhead
  have hend : advance s = wrap s.countDown :=
    (advance_of_fetch_some hp ht hw).trans (acceptDescriptor_of_end hd s.countDown)
  exact hend.trans (wrap_of_fetch_some (s := s.countDown) ht ((fetch_zero t).trans hhead))

/-! ### Every STEP -/

/-- R144's rule for LINE, at the contexts before and after any STEP. -/
theorem advance_line {s s' : State} (h : advance s = .next s') :
    s'.line = if descActive s'.cpulse = descActive s.cpulse then s.line + 1 else 0 := by
  obtain ⟨_, rfl⟩ | ⟨_, _, _, _, _, _, rfl⟩ | ⟨_, _, _, _, _, _, _, _, rfl⟩ := advance_eq_next h
  case inl => exact (if_pos rfl).symm
  case inr.inl => rfl
  case inr.inr => rfl

/-- Below its last value LINE does not wrap to 0. -/
theorem line_add_one_ne_zero {line : LineCount} (h : line.toNat + 1 < 2 ^ Config.lineW) : line + 1 ≠ 0 := by
  intro hzero
  have hsum : (line + 1).toNat = line.toNat + 1 := BitVec.toNat_add_of_lt h
  rw [hzero] at hsum
  exact Nat.succ_ne_zero _ hsum.symm

/-- Settles O17: the rule for LINE at an edge and between edges. -/
theorem lineResetsExactlyAtEdges : Obligations.LineResetsExactlyAtEdges := by
  intro s s' h
  have hline : s'.line = if descActive s'.cpulse = descActive s.cpulse then s.line + 1 else 0 := advance_line h
  have hedge (hne : descActive s'.cpulse ≠ descActive s.cpulse) : s'.line = 0 := hline.trans (if_neg hne)
  have hsame (heq : descActive s'.cpulse = descActive s.cpulse) : s'.line = s.line + 1 := hline.trans (if_pos heq)
  refine ⟨hedge, hsame, fun hlt => ⟨fun hzero heq => ?_, hedge⟩⟩
  exact line_add_one_ne_zero hlt ((hsame heq).symm.trans hzero)

/-- STEP writes the four context registers and nothing else. -/
theorem advance_changes_context_only {s s' : State} (h : advance s = .next s') :
    s' = { s with pidx := s'.pidx, pcnt := s'.pcnt, cpulse := s'.cpulse, line := s'.line } := by
  obtain ⟨_, rfl⟩ | ⟨_, _, _, _, _, _, rfl⟩ | ⟨_, _, _, _, _, _, _, _, rfl⟩ := advance_eq_next h
  all_goals rfl

/-- Settles O16: on the table STEP goes through and stays there. -/
theorem stepKeepsTheContextOnTheTable : Obligations.StepKeepsTheContextOnTheTable := by
  intro s hc
  obtain ⟨t, ht, _⟩ := (contextFits_iff s).mp hc
  obtain ⟨s', h⟩ := ((onTable_iff t s).mpr ⟨ht, hc⟩).exists_advance
  exact ⟨s', h, contextFits_advance h hc, advance_changes_context_only h⟩

end Sys2Proof.Machine
end

section
/-! PROOF. The list of the pulse units of a cycle (R125, R147). The entry current at a context on the table stands in it
at the unit the context is at, so that the walk from unit 0 reads the list in order. -/

namespace Sys2Proof.Machine

/-! ### Each entry as often as its duration says -/

/-- The pulse units of a list of entries: `unitDescriptors` for a part of a table. -/
def unitsOf (ws : List DescWord) : List DescWord :=
  ws.flatMap fun w => List.replicate (descDuration w).toNat w

theorem unitDescriptors_eq_unitsOf (t : PulseTable) : unitDescriptors t = unitsOf t.desc := rfl

theorem unitsOf_append (ws ws' : List DescWord) : unitsOf (ws ++ ws') = unitsOf ws ++ unitsOf ws' :=
  List.flatMap_append

theorem unitsOf_cons (w : DescWord) (ws : List DescWord) :
    unitsOf (w :: ws) = List.replicate (descDuration w).toNat w ++ unitsOf ws :=
  List.flatMap_cons

theorem length_unitsOf (ws : List DescWord) : (unitsOf ws).length = durationSum ws := by
  simp [unitsOf, durationSum, List.length_flatMap]

/-- The units of entry `i` come after those of the entries before it. -/
theorem getElem?_unitsOf {ws : List DescWord} {i j : Nat} {w : DescWord} (hw : ws[i]? = some w)
    (hj : j < (descDuration w).toNat) : (unitsOf ws)[durationSum (ws.take i) + j]? = some w := by
  obtain ⟨hi, rfl⟩ := List.getElem?_eq_some_iff.mp hw
  have hsplit : unitsOf ws = unitsOf (ws.take i) ++ (List.replicate (descDuration ws[i]).toNat ws[i] ++
      unitsOf (ws.drop (i + 1))) := by
    rw [← unitsOf_cons, ← unitsOf_append, ← List.drop_eq_getElem_cons hi, List.take_append_drop]
  rw [hsplit, ← length_unitsOf, List.getElem?_append_right (Nat.le_add_right _ _), Nat.add_sub_cancel_left,
    List.getElem?_append_left (by rwa [List.length_replicate]), List.getElem?_replicate_of_lt hj]

/-! ### The entry current at a unit -/

theorem OnTable.getElem?_unitDescriptors {t : PulseTable} {s : State} (h : OnTable t s) :
    (unitDescriptors t)[s.unitsElapsed t]? = some s.cpulse := by
  have hover : (descDuration s.cpulse).toNat - s.pcnt.toNat < (descDuration s.cpulse).toNat :=
    Nat.sub_lt (h.pcnt_pos.trans h.pcnt_le) h.pcnt_pos
  rw [unitDescriptors_eq_unitsOf]
  exact getElem?_unitsOf h.current hover

/-- The context INIT constructs is on the table, at unit 0. -/
theorem onTable_of_first_context {s : State} {t : PulseTable} {w : DescWord} (ht : s.table? = some t)
    (hv : t.valid = true) (hw : t.fetch 0 = some w) (hpidx : s.pidx = 0) (hcpulse : s.cpulse = w)
    (hpcnt : s.pcnt = descDuration w) : OnTable t s ∧ s.unitsElapsed t = 0 := by
  subst hcpulse
  have hcontext : s.contextFits = true :=
    contextFits_of_entry ht hv (hpidx ▸ hw) (descDuration_of_first hv hw) hpcnt
  have hon : OnTable t s := (onTable_iff t s).mpr ⟨ht, hcontext⟩
  exact ⟨hon, (hon.unitsElapsed_eq_zero_iff hw).mpr ⟨hpidx, rfl, hpcnt⟩⟩

/-- Settles O19: after `k` STEPs from unit 0 the context is at unit `k`, and the list has its descriptor there. -/
theorem descriptorsAreCurrentInTableOrder : Obligations.DescriptorsAreCurrentInTableOrder := by
  intro s s' t w k ht hv hhead hpidx hcpulse hpcnt hlt hwalk
  obtain ⟨hon, hzero⟩ := onTable_of_first_context ht hv ((fetch_zero t).trans hhead) hpidx hcpulse hpcnt
  obtain ⟨s'', hwalk', hs', hunits⟩ := hon.walk k
  cases hwalk.symm.trans hwalk'
  rw [hzero, Nat.zero_add, Nat.mod_eq_of_lt hlt] at hunits
  rw [← hunits]
  exact hs'.getElem?_unitDescriptors

end Sys2Proof.Machine
end

section
/-! PROOF. The three derived values (R148, R150, R151): each is told to its reader, and nothing else changes. -/

namespace Sys2Proof.Machine

theorem exec_hper_of_table {s : State} {t : PulseTable} (ht : s.table? = some t) :
    exec .hper s = .next (s.tell (.hper (hperOf t s.cpulse))) := withTable_some ht _

theorem exec_syncw_of_table {s : State} {t : PulseTable} (ht : s.table? = some t) :
    exec .syncw s = .next (s.tell (.syncw (syncwOf t s.cpulse))) := withTable_some ht _

/-- Halved is shifted by one place; shifting by none leaves the period. -/
theorem hperOf_eq_ite (t : PulseTable) (w : DescWord) :
    hperOf t w = if descHalf w then t.horizontalPeriod >>> 1 else t.horizontalPeriod := by
  cases h : descHalf w with
  | false => simp [hperOf, h]
  | true => simp [hperOf, h]

theorem exec_isact (s : State) : exec .isact s = .next (s.tell (.isact s.isActive)) := rfl

/-- Settles O21: the id is the one its word is made of, and the period is shifted by 1 or by 0. -/
theorem hperReturnsThePeriod : Obligations.HperReturnsThePeriod := by
  refine ⟨opId_opWord 0x5#4 0, fun s t ht => ?_⟩
  rw [exec_hper_of_table ht, hperOf_eq_ite]
  rfl

/-- Settles O22: the id is the one its word is made of, and the width is read from the table by the flags. -/
theorem syncwReturnsTheWidth : Obligations.SyncwReturnsTheWidth :=
  ⟨opId_opWord 0x6#4 0, fun _ _ ht => exec_syncw_of_table ht⟩

/-- Settles O23: the id is the one its word is made of, and the flag is read from CPULSE, without a table. -/
theorem isactReturnsTheFlag : Obligations.IsactReturnsTheFlag :=
  ⟨opId_opWord 0x7#4 0, exec_isact⟩

end Sys2Proof.Machine
end

section
/-! PROOF. The line service, its parts one at a time (R170 to R184): what BOUNDARY, ARB and REPROG do in each of their cases,
and TICK as these parts one after another. -/

namespace Sys2Proof.Machine

/-! ### BOUNDARY, ARB and REPROG -/

/-- An ARM that the latch fits goes through (R66, R207). -/
theorem arbitrate_of_active {s : State} (ha : s.isActive = true) (hp : s.slPclk ≠ 3)
    (hw : s.slData.toNat + s.slLen.toNat ≤ 2 ^ Config.addrW) : arbitrate s = .next s.arm := by
  rw [arbitrate, if_pos ha, if_neg hp, if_neg hw.not_gt]

theorem arbitrate_of_inactive {s : State} (ha : s.isActive = false) : arbitrate s = .next s.disarm := by
  rw [arbitrate, if_neg (ne_true_of_eq_false ha)]

theorem reprogram_of_table {s : State} {t : PulseTable} (ht : s.table? = some t) :
    reprogram s = .next (s.loadShadows t) := withTable_some ht _

/-- Without TRIG_EN the trigger is silent at every count (R263). -/
theorem triggerFires_of_disabled {s : State} (h : s.trigEn = false) : triggerFires s = false := by
  simp [triggerFires, h]

/-- Settles O24: without a borrow BOUNDARY is the copy. -/
theorem boundaryActivatesTheShadows : Obligations.BoundaryActivatesTheShadows :=
  fun _ hx => congrArg _ (boundary_of_no_borrow hx)

/-- Settles O26: the flag `active` is bit 3 of CPULSE (R92), and neither refusal applies. -/
theorem arbArmsTheLatchedBuffer : Obligations.ArbArmsTheLatchedBuffer :=
  fun _ ha hp hw => arbitrate_of_active ha hp hw

/-- Settles O27: the only next state of ARB is the disarmed one, whose trigger stays disabled at any count. -/
theorem arbDisarmsAtAnInactiveLine : Obligations.ArbDisarmsAtAnInactiveLine := by
  intro s ha
  have harb : exec .arb s = .next s.disarm := arbitrate_of_inactive ha
  refine ⟨harb, fun s' h count => ?_⟩
  cases harb.symm.trans h
  exact triggerFires_of_disabled (s := { s.disarm with tcnt := count }) rfl

/-- Settles O33: halved is shifted by one place. -/
theorem reprogLoadsTheShadows : Obligations.ReprogLoadsTheShadows := by
  intro s t ht p w
  have hperiod : hperOf t s.cpulse = p := hperOf_eq_ite t s.cpulse
  have hreprog : exec .reprog s = .next (s.loadShadows t) := reprogram_of_table ht
  rw [hreprog, State.loadShadows, hperiod]
  rfl

/-! ### TICK as its parts -/

theorem service_of_stopped {s : State} (h : s.serving = false) : service s = .next s :=
  if_neg (ne_true_of_eq_false h)

theorem service_of_enabled {s : State} (hs : s.serving = true) (he : s.tickEnabled = true) :
    service s = serviceBody (enterService s) := by
  rw [service, if_pos hs, if_pos he]

theorem enterService_of_boundary {s : State} (hp : s.tickPending = false) : enterService s = s.activate :=
  if_neg (ne_true_of_eq_false hp)

theorem enterService_of_pending {s : State} (hp : s.tickPending = true) :
    enterService s = { s with tickPending := false } := if_pos hp

/-- With a boundary of its own the service begins as BOUNDARY leaves the state. -/
theorem service_of_boundary {s : State} (hs : s.serving = true) (hp : s.tickPending = false) (hx : s.xfer = none) :
    service s = serviceBody (boundary s) := by
  have henabled : s.tickEnabled = true := by simp [State.tickEnabled, hx]
  rw [service_of_enabled hs henabled, enterService_of_boundary hp, boundary_of_no_borrow hx]

/-- With the event pending the service begins with the clearing of the record (R245). -/
theorem service_of_pending {s : State} (hs : s.serving = true) (hp : s.tickPending = true) :
    service s = serviceBody { s with tickPending := false } := by
  have henabled : s.tickEnabled = true := by simp [State.tickEnabled, hp]
  rw [service_of_enabled hs henabled, enterService_of_pending hp]

theorem andThen_congr {r : Result} {k k' : State → Result} (h : ∀ s, r = .next s → k s = k' s) :
    andThen r k = andThen r k' := by
  cases r with
  | next s => exact h s rfl
  | fault f => rfl
  | refused c => rfl

theorem arbitrate_overlap {s s' : State} (h : arbitrate s = .next s') : s'.overlap = s.overlap := by
  obtain ⟨_, _, _, rfl⟩ | ⟨_, rfl⟩ := arbitrate_eq_next h
  · rfl
  · rfl

theorem advance_overlap {s s' : State} (h : advance s = .next s') : s'.overlap = s.overlap := by
  rw [advance_changes_context_only h]

theorem produce_overlap {s s' : State} (h : produce s = .next s') : s'.overlap = s.overlap := by
  obtain ⟨_, _, _, hcall, rfl⟩ := produce_eq_next h
  rw [callActs_eq_next hcall, takeAnswer_eq]
  rfl

theorem dispatch_overlap {s s' : State} (h : dispatch s = .next s') : s'.overlap = s.overlap := by
  obtain ⟨_, h⟩ | ⟨_, _, h⟩ | ⟨_, _, rfl⟩ := dispatch_eq_next h
  · exact produce_overlap h
  · obtain ⟨_, _, rfl⟩ := vblank_eq_next h
    rfl
  · rfl

theorem reprogram_overlap {s s' : State} (h : reprogram s = .next s') : s'.overlap = s.overlap := by
  obtain ⟨_, _, rfl⟩ := reprogram_eq_next h
  rfl

/-- With the queue of gaps empty the parts follow one another without a step of XFER (log 22): no part fills the queue. -/
theorem serviceBody_of_no_gaps {s : State} (h : s.overlap = []) :
    serviceBody s = andThen (arbitrate s) fun s1 => andThen (advance s1) fun s2 => andThen (dispatch s2) fun s3 =>
      andThen (reprogram s3) fun s4 => .next s4.record := by
  refine andThen_congr fun s1 h1 => ?_
  have ho1 : s1.overlap = [] := (arbitrate_overlap h1).trans h
  rw [xferMeanwhile_nil ho1]
  refine andThen_congr fun s2 h2 => ?_
  have ho2 : s2.overlap = [] := (advance_overlap h2).trans ho1
  rw [xferMeanwhile_nil ho2]
  refine andThen_congr fun s3 h3 => ?_
  have ho3 : s3.overlap = [] := (dispatch_overlap h3).trans ho2
  rw [xferMeanwhile_nil ho3]
  refine andThen_congr fun s4 h4 => ?_
  have ho4 : s4.overlap = [] := (reprogram_overlap h4).trans ho3
  rw [xferMeanwhile_nil ho4]
  rfl

/-- Settles O35: the service body is the parts after the entry, and the entry is BOUNDARY or the clearing of the record. -/
theorem tickRunsItsPartsInOrder : Obligations.TickRunsItsPartsInOrder := by
  intro s hrun hirq body
  have hs : s.serving = true := Bool.and_eq_true_iff.mpr ⟨hrun, hirq⟩
  refine ⟨service_of_boundary hs, service_of_pending hs, fun hp hx ho => ?_⟩
  have hgaps : (boundary s).overlap = [] := by rwa [boundary_of_no_borrow hx]
  exact (service_of_boundary hs hp hx).trans (serviceBody_of_no_gaps hgaps)

/-- Settles O36: RUN and IRQ_EN together let a service begin. -/
theorem tickIgnoredWhileStopped : Obligations.TickIgnoredWhileStopped := by
  intro s h
  have hs : s.serving = false := Bool.and_eq_false_iff.mpr h
  exact service_of_stopped hs

end Sys2Proof.Machine
end

section
/-! PROOF. One line service as a whole (R170, R185): the context is what STEP makes of it, the armed transfer is ARB's, the
latch the dispatch's, the shadow registers REPROG's, and it emits the events of these three in their order. -/

namespace Sys2Proof.Machine

/-! ### The sequencer, which STEP alone moves -/

/-- The two states show STEP the same: the context, the selected standard and the tables. -/
structure SameSequencer (s u : State) : Prop where
  ctrl : u.ctrl = s.ctrl
  cfg : u.cfg = s.cfg
  pidx : u.pidx = s.pidx
  pcnt : u.pcnt = s.pcnt
  cpulse : u.cpulse = s.cpulse
  line : u.line = s.line

theorem SameSequencer.refl (s : State) : SameSequencer s s := ⟨rfl, rfl, rfl, rfl, rfl, rfl⟩

theorem SameSequencer.trans {s u v : State} (h1 : SameSequencer s u) (h2 : SameSequencer u v) : SameSequencer s v where
  ctrl := h2.ctrl.trans h1.ctrl
  cfg := h2.cfg.trans h1.cfg
  pidx := h2.pidx.trans h1.pidx
  pcnt := h2.pcnt.trans h1.pcnt
  cpulse := h2.cpulse.trans h1.cpulse
  line := h2.line.trans h1.line

section
variable {s u : State} (h : SameSequencer s u)
include h

theorem SameSequencer.table? : u.table? = s.table? := by
  rw [State.table?, State.table?, State.std, State.std, h.cfg, h.ctrl]

theorem SameSequencer.isActive : u.isActive = s.isActive := congrArg descActive h.cpulse

theorem SameSequencer.ctxView (t : PulseTable) : ctxView t u = ctxView t s := by
  rw [Machine.ctxView, Machine.ctxView, State.std, State.std, h.ctrl, h.pidx, h.pcnt, h.cpulse, h.line]

theorem SameSequencer.countDown : SameSequencer s.countDown u.countDown :=
  ⟨h.ctrl, h.cfg, h.pidx, congrArg (· - 1) h.pcnt, h.cpulse, congrArg (· + 1) h.line⟩

theorem SameSequencer.makeCurrent (i : Index) (w : DescWord) : SameSequencer (s.makeCurrent i w) (u.makeCurrent i w) where
  ctrl := h.ctrl
  cfg := h.cfg
  pidx := rfl
  pcnt := rfl
  cpulse := rfl
  line := by rw [State.makeCurrent_line, State.makeCurrent_line, h.cpulse, h.line]

/-- STEP does the same to the same sequencer, in each of its three ways. -/
theorem SameSequencer.advance {s' : State} (hstep : Machine.advance s = .next s') :
    ∃ u', Machine.advance u = .next u' ∧ SameSequencer s' u' := by
  have hpidx : u.pidx = s.pidx := h.pidx
  have hdone (hz : s.pcnt - 1 = 0) : u.pcnt = 1 := h.pcnt.trans (sub_eq_zero.mp hz)
  obtain ⟨hne, rfl⟩ | ⟨t, w, hz, ht, hw, hd, rfl⟩ | ⟨t, w, w0, hz, ht, hw, hd, hw0, rfl⟩ := advance_eq_next hstep
  case inl =>
    exact ⟨_, advance_of_units_left (h.pcnt ▸ sub_ne_zero.mp hne), h.countDown⟩
  case inr.inl =>
    rw [advance_of_fetch_some (hdone hz) (h.table?.trans ht) (hpidx ▸ hw), acceptDescriptor_of_pulse hd,
      State.countDown_pidx, hpidx]
    exact ⟨_, rfl, h.countDown.makeCurrent _ w⟩
  case inr.inr =>
    rw [advance_of_fetch_some (hdone hz) (h.table?.trans ht) (hpidx ▸ hw), acceptDescriptor_of_end hd,
      wrap_of_fetch_some (s := u.countDown) (h.table?.trans ht) hw0]
    exact ⟨_, rfl, h.countDown.makeCurrent 0 w0⟩

end

theorem enterService_sequencer (s : State) : SameSequencer s (enterService s) := by
  rw [enterService_eq]
  exact { SameSequencer.refl s with }

theorem arbitrate_sequencer {s s' : State} (h : arbitrate s = .next s') : SameSequencer s s' := by
  obtain ⟨_, _, _, rfl⟩ | ⟨_, rfl⟩ := arbitrate_eq_next h
  · exact { SameSequencer.refl s with }
  · exact { SameSequencer.refl s with }

theorem xferMeanwhile_sequencer (s : State) : SameSequencer s (xferMeanwhile s) := by
  rw [xferMeanwhile_eq]
  exact { SameSequencer.refl s with }

/-! ### The stretches of a service after ARB -/

/-- The latch (R37). -/
def State.scanline (s : State) : Scanline := ⟨s.slHstart, s.slLen, s.slData, s.slPclk⟩

/-- What no part after ARB writes: the armed transfer with its trigger, TIMER's count, and what HOST sees (R185). -/
structure KeptAfterArb (s s' : State) : Prop where
  inbox : s'.inbox = s.inbox
  replies : s'.replies = s.replies
  tcnt : s'.tcnt = s.tcnt
  trigEn : s'.trigEn = s.trigEn
  dmaAddr : s'.dmaAddr = s.dmaAddr
  dmaLen : s'.dmaLen = s.dmaLen
  dmaPclk : s'.dmaPclk = s.dmaPclk

theorem KeptAfterArb.refl (s : State) : KeptAfterArb s s := ⟨rfl, rfl, rfl, rfl, rfl, rfl, rfl⟩

theorem KeptAfterArb.trans {s s1 s2 : State} (h1 : KeptAfterArb s s1) (h2 : KeptAfterArb s1 s2) : KeptAfterArb s s2 where
  inbox := h2.inbox.trans h1.inbox
  replies := h2.replies.trans h1.replies
  tcnt := h2.tcnt.trans h1.tcnt
  trigEn := h2.trigEn.trans h1.trigEn
  dmaAddr := h2.dmaAddr.trans h1.dmaAddr
  dmaLen := h2.dmaLen.trans h1.dmaLen
  dmaPclk := h2.dmaPclk.trans h1.dmaPclk

/-- STEP, with XFER's steps before and after it, writes the context and XFER's own state only. -/
structure Stepped (s v : State) : Prop extends KeptAfterArb s v where
  scanline : v.scanline = s.scanline
  answers : v.answers = s.answers
  answer : v.nextAnswer = s.nextAnswer
  buf : v.buf = s.buf
  diagActive : v.diagActive = s.diagActive
  diagBlank : v.diagBlank = s.diagBlank
  events : v.events = s.events

theorem stepped_of_advance {s s' : State} (h : advance (xferMeanwhile s) = .next s') : Stepped s (xferMeanwhile s') := by
  rw [xferMeanwhile_eq s', advance_changes_context_only h, xferMeanwhile_eq s]
  exact ⟨{ KeptAfterArb.refl s with }, rfl, rfl, rfl, rfl, rfl, rfl, rfl⟩

/-- The request or the signal of the dispatch, or neither (R177). -/
def dispatchEvents (t : PulseTable) (s : State) : List Event :=
  if s.isActive then [.scanlineReq (ctxView t s)] else if s.line = 0 then [.vblank (ctxView t s)] else []

theorem SameSequencer.dispatchEvents {s u : State} (h : SameSequencer s u) (t : PulseTable) :
    dispatchEvents t u = dispatchEvents t s := by
  rw [Machine.dispatchEvents, Machine.dispatchEvents, h.isActive, h.line, h.ctxView t]

/-- The dispatch emits its event, and puts PRODUCER's answer into the latch if the line prepared is active. -/
structure Dispatched (t : PulseTable) (s s' : State) : Prop extends KeptAfterArb s s' where
  sequencer : SameSequencer s s'
  diagActive : s'.diagActive = s.diagActive
  diagBlank : s'.diagBlank = s.diagBlank
  events : s'.events = s.events ++ dispatchEvents t s
  active : s.isActive = true → s'.scanline = s.nextAnswer.scanline
  inactive : s.isActive = false → s'.scanline = s.scanline ∧ s'.answers = s.answers ∧ s'.buf = s.buf

theorem dispatched_of_produce {s s' : State} {t : PulseTable} (ha : s.isActive = true) (ht : s.table? = some t)
    (h : produce s = .next s') : Dispatched t s s' := by
  obtain ⟨t', s1, ht', hcall, rfl⟩ := produce_eq_next h
  cases ht.symm.trans ht'
  have hevents : dispatchEvents t s = [.scanlineReq (ctxView t s)] := if_pos ha
  rw [callActs_eq_next hcall, takeAnswer_eq]
  exact ⟨{ KeptAfterArb.refl s with }, { SameSequencer.refl s with }, rfl, rfl, hevents ▸ rfl, fun _ => rfl,
    fun hi => nomatch ha.symm.trans hi⟩

theorem dispatched_of_dispatch {s s' : State} {t : PulseTable} (ht : s.table? = some t) (h : dispatch s = .next s') :
    Dispatched t s s' := by
  obtain ⟨ha, h⟩ | ⟨ha, hl, h⟩ | ⟨ha, hl, rfl⟩ := dispatch_eq_next h
  · exact dispatched_of_produce ha ht h
  · obtain ⟨t', ht', rfl⟩ := vblank_eq_next h
    cases ht.symm.trans ht'
    have hevents : dispatchEvents t s = [.vblank (ctxView t s)] := by
      rw [dispatchEvents, if_neg (ne_true_of_eq_false ha), if_pos hl]
    exact ⟨{ KeptAfterArb.refl s with }, { SameSequencer.refl s with }, rfl, rfl, hevents ▸ rfl,
      fun hi => (nomatch ha.symm.trans hi), fun _ => ⟨rfl, rfl, rfl⟩⟩
  · have hevents : dispatchEvents t s' = [] := by
      rw [dispatchEvents, if_neg (ne_true_of_eq_false ha), if_neg hl]
    exact ⟨.refl _, .refl _, rfl, rfl, by rw [hevents, List.append_nil], fun hi => (nomatch ha.symm.trans hi),
      fun _ => ⟨rfl, rfl, rfl⟩⟩

/-- REPROG and DIAG, with XFER's steps before each, write the shadow registers from CPULSE and the latch, and the counter of
the class of the line prepared (R180, R226). -/
structure Reprogrammed (t : PulseTable) (s s' : State) : Prop extends KeptAfterArb s s' where
  sequencer : SameSequencer s s'
  scanline : s'.scanline = s.scanline
  answers : s'.answers = s.answers
  buf : s'.buf = s.buf
  periodSh : s'.periodSh = hperOf t s'.cpulse
  syncwSh : s'.syncwSh = syncwOf t s'.cpulse
  trigofsSh : s'.trigofsSh = trigofsOf t s'.slHstart
  events : s'.events = s.events ++ [.reprog s'.periodSh s'.syncwSh s'.trigofsSh]
  active : s.isActive = true → s'.diagBlank = s.diagBlank
  inactive : s.isActive = false → s'.diagActive = s.diagActive

theorem reprogrammed_of_loadShadows (t : PulseTable) (s : State) :
    Reprogrammed t s (xferMeanwhile ((xferMeanwhile s).loadShadows t)).record := by
  rw [xferMeanwhile_eq ((xferMeanwhile s).loadShadows t), xferMeanwhile_eq s]
  unfold State.record
  split
  · rename_i ha
    exact ⟨{ KeptAfterArb.refl s with }, { SameSequencer.refl s with }, rfl, rfl, rfl, rfl, rfl, rfl, rfl, fun _ => rfl,
      fun hi => nomatch hi.symm.trans ha⟩
  · rename_i ha
    exact ⟨{ KeptAfterArb.refl s with }, { SameSequencer.refl s with }, rfl, rfl, rfl, rfl, rfl, rfl, rfl,
      fun hi => absurd hi ha, fun _ => rfl⟩

/-- What a service does after its ARB: PRODUCER's answer comes into the latch if the line prepared is active, the shadow
registers get that line's timing, and the events of the dispatch and of REPROG are emitted. -/
structure AfterArb (t : PulseTable) (s s' : State) : Prop extends KeptAfterArb s s' where
  active : s'.isActive = true → s'.scanline = s.nextAnswer.scanline ∧ s'.diagBlank = s.diagBlank
  inactive : s'.isActive = false →
    s'.scanline = s.scanline ∧ s'.answers = s.answers ∧ s'.buf = s.buf ∧ s'.diagActive = s.diagActive
  periodSh : s'.periodSh = hperOf t s'.cpulse
  syncwSh : s'.syncwSh = syncwOf t s'.cpulse
  trigofsSh : s'.trigofsSh = trigofsOf t s'.slHstart
  events : s'.events = s.events ++ dispatchEvents t s' ++ [.reprog s'.periodSh s'.syncwSh s'.trigofsSh]

theorem AfterArb.of_stretches {t : PulseTable} {s v w s' : State} (hstep : Stepped s v) (hcall : Dispatched t v w)
    (hreprog : Reprogrammed t w s') : AfterArb t s s' where
  toKeptAfterArb := hstep.trans (hcall.trans hreprog.toKeptAfterArb)
  active ha := by
    have hw : w.isActive = true := hreprog.sequencer.isActive.symm.trans ha
    have hv : v.isActive = true := hcall.sequencer.isActive.symm.trans hw
    rw [hreprog.scanline, hcall.active hv, hstep.answer, hreprog.active hw, hcall.diagBlank, hstep.diagBlank]
    exact ⟨rfl, rfl⟩
  inactive ha := by
    have hw : w.isActive = false := hreprog.sequencer.isActive.symm.trans ha
    have hv : v.isActive = false := hcall.sequencer.isActive.symm.trans hw
    obtain ⟨hscanline, hanswers, hbuf⟩ := hcall.inactive hv
    exact ⟨hreprog.scanline.trans (hscanline.trans hstep.scanline), hreprog.answers.trans (hanswers.trans hstep.answers),
      hreprog.buf.trans (hbuf.trans hstep.buf), (hreprog.inactive hw).trans (hcall.diagActive.trans hstep.diagActive)⟩
  periodSh := hreprog.periodSh
  syncwSh := hreprog.syncwSh
  trigofsSh := hreprog.trigofsSh
  events := by
    rw [hreprog.events, hcall.events, hstep.events, (hcall.sequencer.trans hreprog.sequencer).dispatchEvents]

/-! ### TICK up to its ARB -/

/-- The entry and ARB write what the boundary and the arming write: the transfer and the trigger by the class of the line
beginning, with one event (R171, R172, R175). -/
structure Arbitrated (s s' : State) : Prop where
  inbox : s'.inbox = s.inbox
  replies : s'.replies = s.replies
  tcnt : s'.tcnt = (enterService s).tcnt
  scanline : s'.scanline = s.scanline
  answers : s'.answers = s.answers
  answer : s'.nextAnswer = s.nextAnswer
  buf : s'.buf = s.buf
  diagActive : s'.diagActive = s.diagActive
  diagBlank : s'.diagBlank = s.diagBlank
  trigEn : s'.trigEn = s.isActive
  active : s.isActive = true → s'.dmaAddr = s.slData ∧ s'.dmaLen = s.slLen ∧ s'.dmaPclk = s.slPclk
  inactive : s.isActive = false → s'.dmaAddr = s.dmaAddr ∧ s'.dmaLen = s.dmaLen ∧ s'.dmaPclk = s.dmaPclk
  events : s'.events = s.events ++ [if s.isActive then .arm s.slData s.slLen s.slPclk else .disarm]

theorem arbitrated_of_arbitrate {s s' : State} (h : arbitrate (enterService s) = .next s') : Arbitrated s s' := by
  have hentered : (enterService s).isActive = s.isActive := (enterService_sequencer s).isActive
  obtain ⟨ha, _, _, rfl⟩ | ⟨ha, rfl⟩ := arbitrate_eq_next h
  all_goals
    rw [hentered] at ha
    rw [enterService_eq]
  · exact ⟨rfl, rfl, rfl, rfl, rfl, rfl, rfl, rfl, rfl, ha.symm, fun _ => ⟨rfl, rfl, rfl⟩,
      fun hi => (nomatch ha.symm.trans hi), by rw [if_pos ha]; rfl⟩
  · exact ⟨rfl, rfl, rfl, rfl, rfl, rfl, rfl, rfl, rfl, ha.symm, fun hi => (nomatch ha.symm.trans hi),
      fun _ => ⟨rfl, rfl, rfl⟩, by rw [if_neg (ne_true_of_eq_false ha)]; rfl⟩

/-! ### A TICK that goes through -/

theorem ServiceFrame.table? {s s' : State} (h : ServiceFrame s s') : s'.table? = s.table? := by
  rw [State.table?, State.table?, State.std, State.std, h.cfg, h.ctrl]

/-- A service that goes through, cut after ARB. -/
theorem afterArb_of_serviceBody {s s' : State} (h : serviceBody s = .next s') :
    ∃ s1 t, arbitrate s = .next s1 ∧ s.table? = some t ∧ AfterArb t s1 s' := by
  obtain ⟨s1, s2, s3, t, h1, h2, h3, ht, hlast⟩ := serviceBody_eq_next h
  have hcalled : s3.table? = (xferMeanwhile s2).table? := (dispatch_frame h3).table?
  have hbefore : (xferMeanwhile s2).table? = s.table? :=
    ((arbitrate_frame h1).trans <| (xferMeanwhile_frame s1).trans <|
      (advance_frame h2).trans (xferMeanwhile_frame s2)).table?
  have hcall : Dispatched t (xferMeanwhile s2) s3 := dispatched_of_dispatch (hcalled.symm.trans ht) h3
  have hreprog : Reprogrammed t s3 s' := hlast ▸ reprogrammed_of_loadShadows t s3
  exact ⟨s1, t, h1, hbefore.symm.trans (hcalled.symm.trans ht), .of_stretches (stepped_of_advance h2) hcall hreprog⟩

/-- What TICK does in a running block with no transfer in flight, in two stretches. -/
theorem tick_stretches {s s' : State} (hs : s.serving = true) (hfits : transferFits s = true)
    (h : exec .tick s = .next s') : ∃ s1 t, s.table? = some t ∧ Arbitrated s s1 ∧ AfterArb t s1 s' := by
  obtain ⟨s1, t, h1, ht, hafter⟩ := afterArb_of_serviceBody (serviceBody_of_tick hs hfits h)
  exact ⟨s1, t, (enterService_sequencer s).table?.symm.trans ht, arbitrated_of_arbitrate h1, hafter⟩

/-- It keeps CTRL and the tables. -/
theorem tick_keeps_ctrl_cfg {s s' : State} (hs : s.serving = true) (hfits : transferFits s = true)
    (h : exec .tick s = .next s') : s'.ctrl = s.ctrl ∧ s'.cfg = s.cfg := by
  have hframe := serviceBody_frame (serviceBody_of_tick hs hfits h)
  have henter := enterService_sequencer s
  exact ⟨hframe.ctrl.trans henter.ctrl, hframe.cfg.trans henter.cfg⟩

/-- Settles O38: ARB's event, the event of the dispatch, and REPROG's. -/
theorem serviceEmitsItsEventsInOrder : Obligations.ServiceEmitsItsEventsInOrder := by
  intro s s' t hrun hirq hfits ht h
  obtain ⟨s1, t', ht', harb, hafter⟩ := tick_stretches (Bool.and_eq_true_iff.mpr ⟨hrun, hirq⟩) hfits h
  cases ht.symm.trans ht'
  rw [hafter.events, harb.events]
  rfl

/-- Settles O39: a TICK that is ignored keeps everything, and a service what its two stretches keep. -/
theorem serviceChangesOnlyItsRegisters : Obligations.ServiceChangesOnlyItsRegisters := by
  intro s s' hfits h
  cases hs : s.serving with
  | false =>
    cases (service_of_stopped hs).symm.trans h
    exact ⟨rfl, rfl, rfl, rfl, fun _ => ⟨rfl, rfl, rfl, rfl, rfl, fun _ => rfl⟩, fun _ => ⟨rfl, rfl, rfl⟩,
      fun _ => rfl, fun _ => rfl⟩
  | true =>
    obtain ⟨s1, t, _, harb, hafter⟩ := tick_stretches hs hfits h
    obtain ⟨hctrl, hcfg⟩ := tick_keeps_ctrl_cfg hs hfits h
    refine ⟨hctrl, hcfg, hafter.inbox.trans harb.inbox, hafter.replies.trans harb.replies, fun ha => ?latch,
      fun ha => ?dma, fun ha => ?blank, fun ha => ?active⟩
    case latch =>
      obtain ⟨hscanline, hanswers, hbuf, _⟩ := hafter.inactive ha
      obtain ⟨hhstart, hlen, hdata, hpclk⟩ := Scanline.mk.inj (hscanline.trans harb.scanline)
      exact ⟨hhstart, hlen, hdata, hpclk, hanswers.trans harb.answers, fun x => by rw [hbuf, harb.buf]⟩
    case dma =>
      rw [hafter.dmaAddr, hafter.dmaLen, hafter.dmaPclk]
      exact harb.inactive ha
    case blank =>
      obtain ⟨_, hblank⟩ := hafter.active ha
      exact hblank.trans harb.diagBlank
    case active =>
      obtain ⟨_, _, _, hactive⟩ := hafter.inactive ha
      exact hactive.trans harb.diagActive

/-- Settles O41: the first service leaves the answer in the latch and its trigger offset in the shadow register, XFER's steps
touch neither, and the second service arms the latch at the offset then active. -/
theorem oneAnswerGovernsOneLine : Obligations.OneAnswerGovernsOneLine := by
  intro s s1 s2 t a rest k hrun hirq hfits ht hans h1 ha hfits1 h2
  have hs : s.serving = true := Bool.and_eq_true_iff.mpr ⟨hrun, hirq⟩
  obtain ⟨_, _, hactivated, _⟩ := shadowsGovernTheNextPeriod s s1 s2 k hrun hirq hfits h1 hfits1 h2
  obtain ⟨_, t', ht', harb1, hafter1⟩ := tick_stretches hs hfits h1
  cases ht.symm.trans ht'
  have hanswer : s.nextAnswer = a := by simp only [State.nextAnswer, hans]
  obtain ⟨hlatch, _⟩ := hafter1.active ha
  rw [harb1.answer, hanswer] at hlatch
  obtain ⟨hhstart, hlen, hdata, hpclk⟩ := Scanline.mk.inj hlatch
  obtain ⟨hctrl, _⟩ := tick_keeps_ctrl_cfg hs hfits h1
  have hs1 : (xferSteps k s1).serving = true := by
    rw [xferSteps_eq, State.serving, State.run, State.irqEn, hctrl]
    exact hs
  obtain ⟨_, _, _, harb2, hafter2⟩ := tick_stretches hs1 hfits1 h2
  have harmed := harb2.active (by rw [xferSteps_eq]; exact ha)
  have htrigEn := harb2.trigEn
  rw [xferSteps_eq] at harmed htrigEn
  obtain ⟨haddr, hlength, hclock⟩ := harmed
  refine ⟨hafter2.dmaAddr.trans (haddr.trans hdata), hafter2.dmaLen.trans (hlength.trans hlen),
    hafter2.dmaPclk.trans (hclock.trans hpclk), hafter2.trigEn.trans (htrigEn.trans ha), ?_⟩
  rw [hactivated, hafter1.trigofsSh, hhstart]
  rfl

end Sys2Proof.Machine
end

section
/-! PROOF. A line service goes through (R145, R170): STEP finds its way on the table, and no store of PRODUCER meets a byte
that XFER has yet to read, because the call stays clear of the whole buffer ARB has lent. -/

namespace Sys2Proof.Machine

/-! ### A call that avoids the lent buffer -/

/-- Every byte XFER has yet to read is one of the borrow `b0`, the one taken at ARB. -/
def UnreadWithin (b0 : Option Borrow) (s : State) : Prop :=
  ∀ a : Addr, s.xfer.any (unread · a) = true → b0.any (borrowed · a) = true

/-- Steps of XFER only shorten what is left to read. -/
theorem unread_of_unread_xferSteps {s : State} {k : Nat} {a : Addr} (h : (xferSteps k s).xfer.any (unread · a) = true) :
    s.xfer.any (unread · a) = true := by
  cases hx : s.xfer with
  | none =>
    rw [xferSteps_none hx, hx] at h
    exact h
  | some b =>
    obtain ⟨hlo, hhi⟩ := (unread_xferSteps hx k a).mp h
    rw [← hx]
    exact (unread_xferSteps hx 0 a).mpr ⟨(Nat.le_add_right _ k).trans hlo, hhi⟩

theorem UnreadWithin.xferSteps {b0 : Option Borrow} {s : State} (h : UnreadWithin b0 s) (k : Nat) :
    UnreadWithin b0 (xferSteps k s) :=
  fun a ha => h a (unread_of_unread_xferSteps ha)

theorem UnreadWithin.xferMeanwhile {b0 : Option Borrow} {s : State} (h : UnreadWithin b0 s) :
    UnreadWithin b0 (xferMeanwhile s) := by
  unfold Machine.xferMeanwhile
  split
  · exact h
  · rename_i k rest _
    exact UnreadWithin.xferSteps (s := { s with overlap := rest }) h k

theorem UnreadWithin.advance {b0 : Option Borrow} {s s' : State} (h : UnreadWithin b0 s)
    (hstep : Machine.advance s = .next s') : UnreadWithin b0 s' := by
  rw [advance_changes_context_only hstep]
  exact h

/-- The bytes of a borrow just taken are its own. -/
theorem unreadWithin_own (s : State) : UnreadWithin s.xfer s := by
  intro a
  cases s.xfer with
  | none => exact id
  | some b =>
    simp only [Option.any_some, unread, borrowed, Bool.and_eq_true, decide_eq_true_eq]
    omega

/-- A store that avoids the borrow is no race. -/
theorem producerWrite_of_avoids {b0 : Option Borrow} {s : State} {a : Addr} {v : Byte} (hs : UnreadWithin b0 s)
    (h : avoids b0 (.write a v) = true) : producerWrite a v s = .next { s with buf := writeByte s.buf a.toNat v } := by
  refine if_neg fun hrace => ?_
  simp [avoids, hs a hrace] at h

/-- A call that avoids the borrow goes through. -/
theorem exists_callActs_of_avoids {b0 : Option Borrow} {acts : List CallAct} {s : State}
    (h : acts.all (avoids b0) = true) (hs : UnreadWithin b0 s) : ∃ s', callActs acts s = .next s' := by
  induction acts generalizing s with
  | nil => exact ⟨s, rfl⟩
  | cons act acts ih =>
    obtain ⟨hact, hacts⟩ := Bool.and_eq_true_iff.mp (List.all_cons.symm.trans h)
    cases act with
    | write a v =>
      rw [callActs, callAct, producerWrite_of_avoids hs hact, andThen_next]
      exact ih hacts hs
    | xfer => exact ih hacts (hs.xferSteps 1)

/-! ### The parts of a service go through -/

theorem exists_dispatch {b0 : Option Borrow} {s : State} {t : PulseTable} (ht : s.table? = some t)
    (h : s.nextAnswer.acts.all (avoids b0) = true) (hs : UnreadWithin b0 s) : ∃ s', dispatch s = .next s' := by
  unfold dispatch
  split
  · have hasked : UnreadWithin b0 (s.emit (.scanlineReq (ctxView t s))).takeAnswer := by
      rw [takeAnswer_eq]
      exact hs
    obtain ⟨s1, hcall⟩ := exists_callActs_of_avoids h hasked
    rw [produce, withTable_some ht, hcall]
    exact ⟨_, rfl⟩
  · split
    · exact ⟨_, withTable_some ht _⟩
    · exact ⟨_, rfl⟩

/-- ARB goes through where the latch fits an ARM, and lends the latched buffer or, with none lent before, no buffer. -/
theorem exists_arbitrate {s : State} (hfits : transferFits s = true) (hlatch : s.isActive = true → latchFits s = true) :
    ∃ s1, arbitrate s = .next s1 ∧
      UnreadWithin (if s.isActive then borrowOf s.slData s.slLen s.slPclk else none) s1 := by
  cases ha : s.isActive with
  | true =>
    have hlatch := hlatch ha
    simp only [latchFits, Bool.and_eq_true, bne_iff_ne, decide_eq_true_eq] at hlatch
    obtain ⟨hclock, hwraps⟩ := hlatch
    exact ⟨_, arbitrate_of_active ha hclock hwraps, unreadWithin_own s.arm⟩
  | false =>
    have hx : s.disarm.xfer = none := Option.isNone_iff_eq_none.mp hfits
    exact ⟨_, arbitrate_of_inactive ha, hx ▸ unreadWithin_own s.disarm⟩

theorem sequencer_before_step {s s1 : State} (h : arbitrate s = .next s1) : SameSequencer s (xferMeanwhile s1) :=
  (arbitrate_sequencer h).trans (xferMeanwhile_sequencer s1)

/-- From ARB to DIAG a service goes through where STEP does and PRODUCER's next call avoids the buffer ARB lends. -/
theorem exists_serviceBody {s u : State} {t : PulseTable} (ht : s.table? = some t) (hstep : advance s = .next u)
    (hfits : transferFits s = true) (hlatch : s.isActive = true → latchFits s = true)
    (hcall : s.nextAnswer.acts.all (avoids (if s.isActive then borrowOf s.slData s.slLen s.slPclk else none)) = true) :
    ∃ s', serviceBody s = .next s' := by
  obtain ⟨s1, h1, hwithin⟩ := exists_arbitrate hfits hlatch
  have hsame : SameSequencer s (xferMeanwhile s1) := sequencer_before_step h1
  obtain ⟨s2, h2, _⟩ := hsame.advance hstep
  have hbefore : BeforeCall s (xferMeanwhile s2) :=
    (arbitrate_beforeCall h1).trans <| (xferMeanwhile_beforeCall s1).trans <|
      (advance_beforeCall h2).trans (xferMeanwhile_beforeCall s2)
  have htable : (xferMeanwhile s2).table? = some t :=
    ((xferMeanwhile_frame s2).table?.trans <| (advance_table? h2).trans hsame.table?).trans ht
  obtain ⟨s3, h3⟩ := exists_dispatch htable (hbefore.answer ▸ hcall) (hwithin.xferMeanwhile.advance h2).xferMeanwhile
  have htable3 : (xferMeanwhile s3).table? = some t :=
    ((xferMeanwhile_frame s3).table?.trans (dispatch_frame h3).table?).trans htable
  rw [serviceBody, h1, andThen_next, h2, andThen_next, h3, andThen_next, reprogram_of_table htable3, andThen_next]
  exact ⟨_, rfl⟩

/-- The context a service leaves is the one STEP alone would have made. -/
theorem serviceBody_sequencer {s s' u : State} (h : serviceBody s = .next s') (hstep : advance s = .next u) :
    SameSequencer u s' := by
  obtain ⟨s1, s2, s3, t, h1, h2, h3, ht, hlast⟩ := serviceBody_eq_next h
  obtain ⟨s2', h2', hstepped⟩ := (sequencer_before_step h1).advance hstep
  cases h2.symm.trans h2'
  have hcall : Dispatched t (xferMeanwhile s2) s3 :=
    dispatched_of_dispatch ((dispatch_frame h3).table?.symm.trans ht) h3
  have hreprog : Reprogrammed t s3 s' := hlast ▸ reprogrammed_of_loadShadows t s3
  exact hstepped.trans <| (xferMeanwhile_sequencer s2).trans <| hcall.sequencer.trans hreprog.sequencer

/-! ### The whole service -/

/-- Settles O37: on the table STEP goes through, and so does the service around it, which leaves the context as STEP does and
the other registers as its stretches do. -/
theorem tickCompletesOneService : Obligations.TickCompletesOneService := by
  intro s t hconsistent hrun hfits ht hlatch hcall
  have hcons : Consistent s := (consistent_iff s).mp hconsistent
  obtain ⟨hirq, hcontext⟩ := hcons.running hrun
  have hs : s.serving = true := Bool.and_eq_true_iff.mpr ⟨hrun, hirq⟩
  obtain ⟨s1, hstep⟩ := ((onTable_iff t s).mpr ⟨ht, hcontext⟩).exists_advance
  obtain ⟨u, hustep, hsame⟩ := (enterService_sequencer s).advance hstep
  obtain ⟨s', hbody⟩ : ∃ s', serviceBody (enterService s) = .next s' := by
    refine exists_serviceBody ((enterService_sequencer s).table?.trans ht) hustep ?_ ?_ ?_
    all_goals rw [enterService_eq]; assumption
  have htick : exec .tick s = .next s' :=
    (service_of_enabled hs (Bool.or_eq_true_iff.mpr (.inr hfits))).trans hbody
  have hcurrent : SameSequencer s1 s' := hsame.trans (serviceBody_sequencer hbody hustep)
  have hframe : ServiceFrame (enterService s) s' := serviceBody_frame hbody
  have hinvariant : InService s' := (InService.enter hcons hs).serviceBody hbody
  obtain ⟨_, t', ht', harb, hafter⟩ := tick_stretches hs hfits htick
  cases ht.symm.trans ht'
  have htcnt : s'.tcnt = (enterService s).tcnt := hafter.tcnt.trans harb.tcnt
  refine ⟨s1, s', hstep, htick, hcurrent.pidx, hcurrent.pcnt, hcurrent.cpulse, hcurrent.line, fun hp => ?boundary,
    fun hp => ?pending, ?periodSh, ?syncwSh, hafter.trigofsSh, hafter.trigEn.trans harb.trigEn, hinvariant.taken,
    hinvariant.context⟩
  case boundary =>
    rw [enterService_of_boundary hp] at hframe htcnt
    exact ⟨hframe.periodAct, hframe.syncwAct, hframe.trigofsAct, htcnt⟩
  case pending =>
    rw [enterService_of_pending hp] at hframe htcnt
    exact ⟨hframe.periodAct, hframe.syncwAct, hframe.trigofsAct, htcnt⟩
  case periodSh => rw [hafter.periodSh, hcurrent.cpulse]
  case syncwSh => rw [hafter.syncwSh, hcurrent.cpulse]

end Sys2Proof.Machine
end

section
/-! PROOF. The scanline handoff (R201 to R210): what VBLANK and PRODUCE do, and when a service signals VBLANK. In a call that
stays clear of the borrowed bytes XFER sends what BUF held before it, however its steps and PRODUCER's stores interleave
(R68, R70), so that the call is as many steps of XFER as it has, and the stores. -/

namespace Sys2Proof.Machine

/-! ### VBLANK, and PRODUCE with and without an answer -/

theorem vblank_of_table {s : State} {t : PulseTable} (ht : s.table? = some t) :
    vblank s = .next (s.emit (.vblank (ctxView t s))) := withTable_some ht _

/-- Settles O32: VBLANK is its event. -/
theorem vblankOnlySignals : Obligations.VblankOnlySignals := fun _ _ ht => vblank_of_table ht

/-- With an answer queued PRODUCE asks, lets happen what the answer says, and latches its values. -/
theorem produce_of_answer {s : State} {t : PulseTable} {a : Answer} {rest : List Answer} (ht : s.table? = some t)
    (hans : s.answers = a :: rest) :
    produce s = andThen
      (callActs a.acts { s with events := s.events ++ [.scanlineReq (ctxView t s)], answers := rest })
      fun s' => .next (s'.latch a.scanline) := by
  simp only [produce, withTable_some ht, State.nextAnswer, State.takeAnswer, State.emit, hans]

/-- With none queued PRODUCE asks, draws the values, and latches them (log 5). -/
theorem produce_of_no_answer {s : State} {t : PulseTable} (ht : s.table? = some t) (hans : s.answers = []) :
    produce s = .next
      ({ s.emit (.scanlineReq (ctxView t s)) with draws := s.draws + 1 }.latch (Config.onScanline s.draws)) := by
  simp only [produce, withTable_some ht, State.nextAnswer, State.takeAnswer, State.emit, hans, callActs, andThen_next]

/-- Settles O30: the draw is PRODUCE's whole answer. -/
theorem produceDrawsAFreeAnswer : Obligations.ProduceDrawsAFreeAnswer :=
  fun _ _ ht hans => produce_of_no_answer ht hans

/-! ### XFER sends the same bytes from a BUF that agrees on them -/

theorem xferSteps_add (m n : Nat) (s : State) : xferSteps (m + n) s = xferSteps n (xferSteps m s) := by
  induction m generalizing s with
  | zero => rw [Nat.zero_add, xferSteps]
  | succ m ih => rw [Nat.succ_add, xferSteps, ih, xferSteps]

section
variable {s : State} {b : Borrow} (hx : s.xfer = some b) (hb : b.done < b.len.toNat)
include hx hb

/-- Steps of XFER send the bytes left, and no more. -/
theorem xferSteps_eq_afterSending_min (n : Nat) :
    xferSteps n s = s.afterSending b (min n (b.len.toNat - b.done)) := by
  obtain hn | hn := le_total n (b.len.toNat - b.done)
  · rw [min_eq_left hn, xferSteps_eq_afterSending hx hb n (by omega)]
  · have hfinished : (s.afterSending b (b.len.toNat - b.done)).xfer = none := if_pos (by omega)
    obtain ⟨r, rfl⟩ := Nat.exists_eq_add_of_le hn
    rw [min_eq_right hn, xferSteps_add, xferSteps_eq_afterSending hx hb _ (by omega), xferSteps_none hfinished]

/-- Steps of XFER do the same with another BUF in which the bytes of the borrow read the same. -/
theorem xferSteps_with_buf {m : Memory}
    (hm : ∀ k < b.len.toNat, readByte m ((b.addr.toNat + k) % 2 ^ Config.addrW) =
      readByte s.buf ((b.addr.toNat + k) % 2 ^ Config.addrW)) (n : Nat) :
    xferSteps n { s with buf := m } = { xferSteps n s with buf := m } := by
  have hsent : (List.range' b.done (min n (b.len.toNat - b.done))).map (fun k =>
        (b.pclk, readByte m ((b.addr.toNat + k) % 2 ^ Config.addrW))) =
      (List.range' b.done (min n (b.len.toNat - b.done))).map (fun k =>
        (b.pclk, readByte s.buf ((b.addr.toNat + k) % 2 ^ Config.addrW))) := by
    refine List.map_congr_left fun k hk => ?_
    have hlen : k < b.len.toNat := by
      rw [List.mem_range'_1] at hk
      omega
    rw [hm k hlen]
  rw [xferSteps_eq_afterSending_min hx hb, xferSteps_eq_afterSending_min (s := { s with buf := m }) hx hb]
  simp only [State.afterSending, hsent]

end

/-! ### A call of `on_scanline`, as stores and as steps of XFER -/

theorem callActs_append (xs ys : List CallAct) (s : State) :
    callActs (xs ++ ys) s = andThen (callActs xs s) (callActs ys) := by
  induction xs generalizing s with
  | nil => rfl
  | cons x xs ih =>
    rw [List.cons_append, callActs, callActs]
    cases callAct x s with
    | next s1 => exact ih s1
    | fault f => rfl
    | refused c => rfl

/-- A call that goes through goes through up to any point of it, and from there on. -/
theorem callActs_append_eq_next {xs ys : List CallAct} {s s' : State} (h : callActs (xs ++ ys) s = .next s') :
    ∃ s1, callActs xs s = .next s1 ∧ callActs ys s1 = .next s' :=
  andThen_eq_next (callActs_append xs ys s ▸ h)

/-- A byte reads as the last store to it during the call. -/
theorem callActs_readByte_stored {pre post : List CallAct} {ad : Addr} {v : Byte} {s s' : State}
    (h : callActs (pre ++ .write ad v :: post) s = .next s') (hwf : s.buf.wf = true)
    (hlast : ∀ u, .write ad u ∉ post) : readByte s'.buf ad.toNat = v := by
  obtain ⟨s1, hpre, hrest⟩ := callActs_append_eq_next h
  obtain ⟨s2, hstore, hpost⟩ := andThen_eq_next hrest
  obtain ⟨_, rfl⟩ := producerWrite_eq_next hstore
  have hwf1 : s1.buf.wf = true := callActs_wf hpre hwf
  have helsewhere : StoresElsewhere post ad.toNat := by
    intro ad' u hmem heq
    obtain rfl := BitVec.eq_of_toNat_eq heq
    exact hlast u hmem
  rw [callActs_readByte hpost (Memory.wf_writeByte hwf1 ad.isLt v) helsewhere, readByte_writeByte hwf1, if_pos rfl]

/-- A call without steps of XFER, and any call without a borrow, keeps the borrow and the serial output. -/
theorem callActs_of_xfer_idle {xs : List CallAct} {s s' : State} (h : callActs xs s = .next s')
    (hidle : .xfer ∉ xs ∨ s.xfer = none) : s'.xfer = s.xfer ∧ s'.serial = s.serial := by
  induction xs generalizing s with
  | nil => cases h; exact ⟨rfl, rfl⟩
  | cons act xs ih =>
    obtain ⟨s1, h1, h2⟩ := andThen_eq_next h
    cases act with
    | write a v =>
      obtain ⟨_, rfl⟩ := producerWrite_eq_next h1
      exact ih (s := { s with buf := writeByte s.buf a.toNat v }) h2 (hidle.imp_left List.not_mem_of_not_mem_cons)
    | xfer =>
      have hnone : s.xfer = none := hidle.resolve_left fun h => h List.mem_cons_self
      cases h1
      rw [xferStep_none hnone] at h2
      exact ih h2 (.inr hnone)

/-- Where no store goes to a byte of the borrow, XFER's steps in the call do what they would do before it. -/
theorem callActs_eq_xferSteps {acts : List CallAct} {s s' : State} {b : Borrow} (hx : s.xfer = some b)
    (hb : b.done < b.len.toNat) (hwf : s.buf.wf = true)
    (hclear : ∀ k < b.len.toNat, StoresElsewhere acts ((b.addr.toNat + k) % 2 ^ Config.addrW))
    (h : callActs acts s = .next s') : s' = { xferSteps (acts.count .xfer) s with buf := s'.buf } := by
  induction acts using List.reverseRecOn generalizing s' with
  | nil => cases h; rfl
  | append_singleton acts act ih =>
    obtain ⟨s1, hacts, hact⟩ := callActs_append_eq_next h
    have hclear1 : ∀ k < b.len.toNat, StoresElsewhere acts ((b.addr.toNat + k) % 2 ^ Config.addrW) :=
      fun k hk ad v hmem => hclear k hk ad v (List.mem_append_left _ hmem)
    have hs1 : s1 = { xferSteps (acts.count .xfer) s with buf := s1.buf } := ih hclear1 hacts
    obtain ⟨s2, hlast, hnil⟩ := andThen_eq_next hact
    cases hnil
    cases act with
    | write a v =>
      obtain ⟨_, rfl⟩ := producerWrite_eq_next hlast
      rw [List.count_append, show [CallAct.write a v].count .xfer = 0 from rfl, Nat.add_zero]
      exact congrArg (fun u : State => { u with buf := writeByte s1.buf a.toNat v }) hs1
    | xfer =>
      cases hlast
      have hread : ∀ k < b.len.toNat, readByte s1.buf ((b.addr.toNat + k) % 2 ^ Config.addrW) =
          readByte s.buf ((b.addr.toNat + k) % 2 ^ Config.addrW) :=
        fun k hk => callActs_readByte hacts hwf (hclear1 k hk)
      calc xferStep s1
          = xferStep (xferSteps (acts.count .xfer) { s with buf := s1.buf }) := by
            rw [xferSteps_with_buf hx hb hread, ← hs1]
        _ = xferSteps (acts.count .xfer + 1) { s with buf := s1.buf } := (xferSteps_add _ 1 _).symm
        _ = { xferSteps ((acts ++ [CallAct.xfer]).count CallAct.xfer) s with buf := s1.buf } := by
            rw [xferSteps_with_buf hx hb hread, List.count_append]; rfl
        _ = _ := by rw [xferStep_buf]

/-- A call that avoids a borrow stores elsewhere than to each of its bytes. -/
theorem storesElsewhere_of_avoids {b : Borrow} {acts : List CallAct} (h : acts.all (avoids (some b)) = true) {x : Nat}
    (hlo : b.addr.toNat ≤ x) (hhi : x < b.addr.toNat + b.len.toNat) : StoresElsewhere acts x := by
  rintro ad v hmem rfl
  have havoids : avoids (some b) (.write ad v) = true := List.all_eq_true.mp h _ hmem
  simp only [avoids, borrowed, Option.any_some, hlo, hhi, decide_true, Bool.and_true, Bool.not_true,
    Bool.false_eq_true] at havoids

/-- What a call that avoids the borrow makes of it and of the serial output, for a borrow that does not wrap (R67, R207). -/
theorem callActs_sends {acts : List CallAct} {s s' : State} {b : Borrow} (h : callActs acts s = .next s')
    (havoids : acts.all (avoids s.xfer) = true) (hwf : s.buf.wf = true) (hx : s.xfer = some b)
    (hb : b.done < b.len.toNat) (hspace : b.addr.toNat + b.len.toNat ≤ 2 ^ Config.addrW) :
    s'.xfer = (if b.done + acts.count .xfer < b.len.toNat then some { b with done := b.done + acts.count .xfer }
      else none) ∧
    s'.serial = s.serial ++ (List.range' b.done (min (acts.count .xfer) (b.len.toNat - b.done))).map fun k =>
      (b.pclk, readByte s.buf (b.addr.toNat + k)) := by
  have hmod : ∀ k < b.len.toNat, (b.addr.toNat + k) % 2 ^ Config.addrW = b.addr.toNat + k :=
    fun k hk => Nat.mod_eq_of_lt (by omega)
  have hclear : ∀ k < b.len.toNat, StoresElsewhere acts ((b.addr.toNat + k) % 2 ^ Config.addrW) := by
    intro k hk
    rw [hmod k hk]
    exact storesElsewhere_of_avoids (hx ▸ havoids) (by omega) (by omega)
  rw [callActs_eq_xferSteps hx hb hwf hclear h, xferSteps_eq_afterSending_min hx hb]
  refine ⟨?xfer, congrArg (s.serial ++ ·) (List.map_congr_left fun k hk => ?byte)⟩
  case xfer =>
    show (if b.done + min (acts.count .xfer) (b.len.toNat - b.done) = b.len.toNat then none else some _) = _
    by_cases hleft : b.done + acts.count .xfer < b.len.toNat
    · rw [min_eq_left (by omega), if_pos hleft, if_neg (by omega)]
    · rw [if_neg hleft, if_pos (by omega)]
  case byte =>
    rw [List.mem_range'_1] at hk
    rw [hmod k (by omega)]

/-- Settles O29: the call goes through because it avoids the borrow, and the clauses are what the call does to BUF and, by
its steps of XFER alone, to the borrow and the serial output. -/
theorem produceLatchesTheAnswer : Obligations.ProduceLatchesTheAnswer := by
  intro s t a rest ht hans havoids hwf
  obtain ⟨u, hcall⟩ := exists_callActs_of_avoids havoids
    (unreadWithin_own { s with events := s.events ++ [.scanlineReq (ctxView t s)], answers := rest })
  have hproduce : exec .produce s = .next (u.latch a.scanline) := by
    show produce s = _
    rw [produce_of_answer ht hans, hcall, andThen_next]
  refine ⟨u.latch a.scanline, hproduce, ?frame, fun x hx => callActs_readByte hcall hwf hx,
    fun pre post ad v hacts hlast => ?stored, fun hsteps => ?idle, fun hx => ?absent, fun b hx hb hspace => ?sends⟩
  case frame => exact congrArg (State.latch · a.scanline) (callActs_eq_next hcall)
  case stored =>
    rw [hacts] at hcall
    exact callActs_readByte_stored (s' := u) hcall hwf hlast
  case idle =>
    obtain ⟨hxfer, hserial⟩ := callActs_of_xfer_idle hcall (.inl hsteps)
    exact ⟨hxfer, hserial⟩
  case absent =>
    obtain ⟨hxfer, hserial⟩ := callActs_of_xfer_idle hcall (.inr hx)
    exact ⟨hxfer.trans hx, hserial⟩
  case sends =>
    obtain ⟨hxfer, hserial⟩ := callActs_sends hcall havoids hwf hx hb hspace
    exact ⟨hxfer, hserial⟩

/-! ### When a service signals VBLANK -/

theorem SameSequencer.symm {s u : State} (h : SameSequencer s u) : SameSequencer u s :=
  ⟨h.ctrl.symm, h.cfg.symm, h.pidx.symm, h.pcnt.symm, h.cpulse.symm, h.line.symm⟩

/-- A TICK that goes through leaves the context that STEP alone would have made. -/
theorem tick_sequencer {s s' : State} (hs : s.serving = true) (hfits : transferFits s = true)
    (h : exec .tick s = .next s') : ∃ u, advance s = .next u ∧ SameSequencer u s' := by
  have hbody : serviceBody (enterService s) = .next s' := serviceBody_of_tick hs hfits h
  obtain ⟨s1, s2, _, _, h1, h2, _⟩ := serviceBody_eq_next hbody
  obtain ⟨v, hv, _⟩ := (sequencer_before_step h1).symm.advance h2
  obtain ⟨u, hu, hsame⟩ := (enterService_sequencer s).symm.advance hv
  exact ⟨u, hu, hsame.symm.trans (serviceBody_sequencer hbody hv)⟩

/-- Away from LINE's last value a service leaves LINE at 0 exactly at an edge (R144). -/
theorem tick_line_eq_zero_iff {s s' : State} (hs : s.serving = true) (hfits : transferFits s = true)
    (hlt : s.line.toNat + 1 < 2 ^ Config.lineW) (h : exec .tick s = .next s') :
    s'.line = 0 ↔ s'.isActive ≠ s.isActive := by
  obtain ⟨u, hu, hsame⟩ := tick_sequencer hs hfits h
  obtain ⟨_, _, hedge⟩ := lineResetsExactlyAtEdges s u hu
  rw [hsame.line, hsame.isActive]
  exact hedge hlt

/-- The dispatch signals VBLANK exactly on an inactive line with LINE at 0 (R177). -/
theorem exists_vblank_mem_dispatchEvents_iff (t : PulseTable) (s : State) :
    (∃ c, .vblank c ∈ dispatchEvents t s) ↔ s.isActive = false ∧ s.line = 0 := by
  unfold dispatchEvents
  split_ifs with ha hl
  · simp [ha]
  · simp [ha, hl]
  · exact iff_of_false (by simp) fun h => hl h.right

/-- Of the events of a service only the dispatch's can be a VBLANK. -/
theorem exists_vblank_mem_tick_iff {s s' : State} (hs : s.serving = true) (hfits : transferFits s = true)
    (h : exec .tick s = .next s') :
    (∃ c, .vblank c ∈ s'.events.drop s.events.length) ↔ s'.isActive = false ∧ s'.line = 0 := by
  obtain ⟨s1, t, _, harb, hafter⟩ := tick_stretches hs hfits h
  rw [← exists_vblank_mem_dispatchEvents_iff t, hafter.events, harb.events, List.append_assoc, List.append_assoc,
    List.drop_left]
  refine exists_congr fun c => ?_
  split_ifs
  · simp
  · simp

/-- Settles O42: with LINE at 0 exactly at an edge, an inactive line prepared has LINE at 0 exactly when the line beginning
is active. -/
theorem vblankExactlyAtActiveToBlankEdges : Obligations.VblankExactlyAtActiveToBlankEdges := by
  intro s s' hrun hirq hfits hlt h
  have hs : s.serving = true := Bool.and_eq_true_iff.mpr ⟨hrun, hirq⟩
  rw [exists_vblank_mem_tick_iff hs hfits h, tick_line_eq_zero_iff hs hfits hlt h, and_comm]
  refine and_congr_left fun hblank => ?_
  rw [hblank, ne_comm, Bool.ne_false_iff]

end Sys2Proof.Machine
end

section
/-! PROOF. HOST's operations and DIAG (R220 to R226): each refusal of INIT and the state it constructs, TEARDOWN in its two
cases, and the diagnostic counters. -/

namespace Sys2Proof.Machine

/-! ### INIT's outcomes, in their order -/

theorem construct_of_running {s : State} (hr : s.run = true) (std : Std) :
    construct std s = .refused .initWhileRunning := if_pos hr

theorem construct_of_no_table {s : State} {std : Std} (hr : s.run = false) (ht : s.cfg.table std = none) :
    construct std s = .refused .badStandard := by
  simp [construct, hr, ht]

theorem construct_of_failure {s : State} {std : Std} {t : PulseTable} {c : TableCheck} (hr : s.run = false)
    (ht : s.cfg.table std = some t) (hf : t.firstFailure = some c) :
    construct std s = .refused (.invalidTable std c) := by
  simp [construct, hr, ht, hf]

theorem construct_of_valid {s : State} {std : Std} {t : PulseTable} {w : DescWord} (hr : s.run = false)
    (ht : s.cfg.table std = some t) (hv : t.valid = true) (hw : t.fetch 0 = some w) :
    construct std s = .next (s.construct std t w) := by
  simp only [construct, hr, Bool.false_eq_true, if_false, ht, (firstFailure_eq_none_iff t).mpr hv, hw]

/-- R99: the selector 3 names no table. -/
theorem table_three (cfg : Configuration) : cfg.table 3 = none := rfl

/-- The check that an invalid table is refused for is one that it fails (log 14). -/
theorem exists_firstFailure {t : PulseTable} (hv : t.valid = false) :
    ∃ c, t.passes c = false ∧ t.firstFailure = some c := by
  cases hf : t.firstFailure with
  | none => exact nomatch hv.symm.trans ((firstFailure_eq_none_iff t).mp hf)
  | some c => exact ⟨c, by simpa using List.find?_some hf, rfl⟩

/-- INIT's reasons to refuse, by RUN (R220, R221). -/
theorem construct_eq_refused {std : Std} {s : State} {c : Refusal} (h : construct std s = .refused c) :
    (s.run = true ∧ c = .initWhileRunning) ∨
    (s.run = false ∧ (c = .badStandard ∨ ∃ check, c = .invalidTable std check)) := by
  unfold construct at h
  split at h
  · cases h
    exact .inl ⟨‹_›, rfl⟩
  · rename_i hr
    refine .inr ⟨by simpa using hr, ?_⟩
    split at h
    · cases h
      exact .inl rfl
    · split at h
      · cases h
        exact .inr ⟨_, rfl⟩
      · split at h <;> cases h
        exact .inr ⟨_, rfl⟩

/-- Settles O43: the block is constructed on the first word, whose timing is HPER's and SYNCW's. -/
theorem initConstructsTheContext : Obligations.InitConstructsTheContext := by
  intro s std t w hr ht hv hw
  have hinit : exec (.init std) s = .next (s.construct std t w) :=
    construct_of_valid hr ht hv ((fetch_zero t).trans hw)
  rw [hinit, State.construct, hperOf_eq_ite]
  rfl

/-! ### TEARDOWN -/

theorem teardown_of_running {s : State} (hr : s.run = true) : teardown s = s.clear := if_pos hr

theorem teardown_of_stopped {s : State} (hr : s.run = false) : teardown s = s := by
  simp [teardown, hr]

theorem exec_teardown (s : State) : exec .teardown s = .next (teardown s) := rfl

/-- Settles O45: the two cases of RUN. -/
theorem teardownReturnsToReset : Obligations.TeardownReturnsToReset := by
  refine fun s => ⟨fun hr => ?_, fun hr => ?_⟩
  · rw [exec_teardown, teardown_of_running hr]
    rfl
  · rw [exec_teardown, teardown_of_stopped hr]

/-! ### INIT after TEARDOWN -/

/-- `u` with BUF, the histories and the inputs of `s`: what `State.clear` lets through, but for the configuration. -/
def State.withOutside (s u : State) : State :=
  { u with
    buf := s.buf, events := s.events, replies := s.replies, serial := s.serial, inbox := s.inbox, answers := s.answers,
    overlap := s.overlap, draws := s.draws }

theorem clear_eq_withOutside (s : State) : s.clear = s.withOutside { State.reset with cfg := s.cfg } := rfl

/-- INIT reads RUN and the tables alone, and leaves BUF, the histories and the inputs as they are (log 19). -/
theorem construct_withOutside (std : Std) (s u : State) :
    construct std (s.withOutside u) = mapNext s.withOutside (construct std u) := by
  have hrun : (s.withOutside u).run = u.run := rfl
  have hcfg : (s.withOutside u).cfg = u.cfg := rfl
  simp only [construct, hrun, hcfg]
  cases u.run with
  | true => rfl
  | false =>
    simp only [Bool.false_eq_true, if_false]
    cases u.cfg.table std with
    | none => rfl
    | some t =>
      dsimp only
      cases t.firstFailure with
      | some c => rfl
      | none => cases t.fetch 0 <;> rfl

/-- Settles O46: TEARDOWN leaves the power-on state but for what INIT neither reads nor writes. -/
theorem initAfterTeardownIsAsTheFirst : Obligations.InitAfterTeardownIsAsTheFirst := by
  intro s s1 std hr h
  rw [exec_teardown, teardown_of_running hr, clear_eq_withOutside] at h
  cases h
  exact construct_withOutside std s { State.reset with cfg := s.cfg }

/-! ### The diagnostic counters -/

theorem record_of_active {s : State} (ha : s.isActive = true) :
    s.record = { s with diagActive := Config.elapsed s.draws, draws := s.draws + 1 } := if_pos ha

theorem record_of_inactive {s : State} (ha : s.isActive = false) :
    s.record = { s with diagBlank := Config.elapsed s.draws, draws := s.draws + 1 } := by
  simp [State.record, ha]

/-- Settles O34: the class is the flag `active`, bit 3 of CPULSE (R92). -/
theorem diagRecordsOneClass : Obligations.DiagRecordsOneClass :=
  fun _ => ⟨fun ha => congrArg Host.Outcome.next (record_of_active ha),
    fun ha => congrArg Host.Outcome.next (record_of_inactive ha)⟩

theorem exec_rddiag (s : State) : exec .rddiag s = .next (s.tell (.diag s.diagActive s.diagBlank)) := rfl

/-- Settles O48: both counters are told in one reply. -/
theorem rddiagReturnsBothCounters : Obligations.RddiagReturnsBothCounters := exec_rddiag

end Sys2Proof.Machine
end

section
/-! PROOF. What can refuse a step (R241): on a consistent state the table is there and STEP finds its way on it, so that INIT
and ARB remain. -/

namespace Sys2Proof.Machine

/-! ### The parts that are refused, and those that never are -/

theorem andThen_eq_refused {r : Result} {k : State → Result} {c : Refusal} (h : andThen r k = .refused c) :
    r = .refused c ∨ ∃ s, r = .next s ∧ k s = .refused c := by
  cases r with
  | next s => exact .inr ⟨s, rfl, h⟩
  | fault f => cases h
  | refused c' => exact .inl h

/-- A call of `on_scanline` faults at a race and is never refused. -/
theorem callActs_ne_refused (xs : List CallAct) (s : State) (c : Refusal) : callActs xs s ≠ .refused c := by
  induction xs generalizing s with
  | nil => exact nofun
  | cons x xs ih =>
    intro h
    obtain h | ⟨s1, _, h⟩ := andThen_eq_refused h
    · cases x with
      | write a v =>
        simp only [callAct, producerWrite] at h
        split at h <;> cases h
      | xfer => cases h
    · exact ih s1 h

theorem produce_ne_refused {s : State} {t : PulseTable} (ht : s.table? = some t) (c : Refusal) :
    produce s ≠ .refused c := by
  rw [produce, withTable_some ht]
  intro h
  obtain h | ⟨s1, _, h⟩ := andThen_eq_refused h
  · exact callActs_ne_refused _ _ _ h
  · cases h

theorem dispatch_ne_refused {s : State} {t : PulseTable} (ht : s.table? = some t) (c : Refusal) :
    dispatch s ≠ .refused c := by
  unfold dispatch
  split
  · exact produce_ne_refused ht c
  · split
    · rw [vblank_of_table ht]
      exact nofun
    · exact nofun

/-- ARB is refused for the two reasons of an ARM (R66, R207). -/
theorem arbitrate_eq_refused {s : State} {c : Refusal} (h : arbitrate s = .refused c) :
    c = .badPixelClock ∨ c = .bufferWraps := by
  unfold arbitrate at h
  split at h
  · split at h
    · cases h
      exact .inl rfl
    · split at h <;> cases h
      exact .inr rfl
  · cases h

/-! ### Where a consistent state is refused -/

theorem InService.exists_onTable {s : State} (h : InService s) : ∃ t, OnTable t s := by
  obtain ⟨t, ht, _⟩ := (contextFits_iff s).mp h.context
  exact ⟨t, (onTable_iff t s).mpr ⟨ht, h.context⟩⟩

/-- In a service nothing but ARB is refused: STEP goes through (R145), and the parts after it find their table. -/
theorem serviceBody_eq_refused {s : State} {c : Refusal} (hs : InService s) (h : serviceBody s = .refused c) :
    arbitrate s = .refused c := by
  obtain h | ⟨s1, h1, h⟩ := andThen_eq_refused h
  · exact h
  have hs1 := (hs.arbitrate h1).xferMeanwhile
  obtain ⟨t, ht⟩ := hs1.exists_onTable
  obtain ⟨s2, h2⟩ := ht.exists_advance
  rw [h2, andThen_next] at h
  have hs2 := (hs1.advance h2).xferMeanwhile
  obtain ⟨t, ht⟩ := hs2.exists_onTable
  obtain h | ⟨s3, h3, h⟩ := andThen_eq_refused h
  · exact absurd h (dispatch_ne_refused ht.table c)
  have hs3 := (hs2.dispatch h3).xferMeanwhile
  obtain ⟨t, ht⟩ := hs3.exists_onTable
  rw [reprogram_of_table ht.table] at h
  cases h

/-- R241, by RUN: INIT's two refusals of a stopped block; on a running one INIT's third and the two of an ARM. -/
def ListedRefusal (s : State) (c : Refusal) : Prop :=
  (s.run = false ∧ (c = .badStandard ∨ ∃ std check, c = .invalidTable std check)) ∨
  (s.run = true ∧ (c = .initWhileRunning ∨ c = .badPixelClock ∨ c = .bufferWraps))

theorem ListedRefusal.of_inbox {s : State} {c : Refusal} {xs : List Stimulus}
    (h : ListedRefusal { s with inbox := xs } c) : ListedRefusal s c := h

theorem listedRefusal_of_construct {std : Std} {s : State} {c : Refusal} (h : construct std s = .refused c) :
    ListedRefusal s c := by
  obtain ⟨hr, rfl⟩ | ⟨hr, rfl | ⟨check, rfl⟩⟩ := construct_eq_refused h
  · exact .inr ⟨hr, .inl rfl⟩
  · exact .inl ⟨hr, .inl rfl⟩
  · exact .inl ⟨hr, .inr ⟨std, check, rfl⟩⟩

/-- TICK is refused where its ARB is, and then RUN is 1. -/
theorem listedRefusal_of_service {s : State} {c : Refusal} (h : Consistent s) (hs : service s = .refused c) :
    ListedRefusal s c := by
  unfold service at hs
  split at hs
  · rename_i hserving
    split at hs
    · have harb := serviceBody_eq_refused (InService.enter h hserving) hs
      exact .inr ⟨(Bool.and_eq_true_iff.mp hserving).1, .inr (arbitrate_eq_refused harb)⟩
    · cases hs
  · cases hs

/-- A boundary faults at an overrun and is never refused. -/
theorem lineRate_ne_refused (s : State) (c : Refusal) : lineRate s ≠ .refused c := by
  unfold lineRate
  repeat' split
  all_goals exact nofun

/-- A tick of the clock is refused where the service that comes before it is (R292). -/
theorem listedRefusal_of_clockTick {s : State} {c : Refusal} (h : Consistent s) (hc : clockTick s = .refused c) :
    ListedRefusal s c := by
  unfold clockTick at hc
  split at hc
  · split at hc
    · exact absurd hc (lineRate_ne_refused _ c)
    · split at hc
      · exact (listedRefusal_of_service (h.withInbox (by simpa [realStimulus] using h.inbox)) hc).of_inbox
      · cases hc
  · cases hc

/-- A consistent state selects a table: a running block its context's, a stopped one that of standard 0 (R43). -/
theorem Consistent.exists_table {s : State} (h : Consistent s) : ∃ t, s.table? = some t := by
  cases hr : s.run with
  | true =>
    obtain ⟨_, hc⟩ := h.running hr
    obtain ⟨t, ht, _⟩ := (contextFits_iff s).mp hc
    exact ⟨t, ht⟩
  | false =>
    rw [h.stopped hr]
    have hstd : s.clear.std = 0 := show (0#4).extractLsb' 2 2 = 0 from rfl
    exact ⟨s.cfg.interlaced, by rw [State.table?, hstd]; rfl⟩

theorem exists_readReg_of_table {s : State} {t : PulseTable} (ht : s.table? = some t) (n : Byte) :
    ∃ v, s.readReg n = some v := by
  unfold State.readReg
  rw [ht]
  repeat' split
  all_goals exact ⟨_, rfl⟩

/-- Of the operations that agents issue, INIT and TICK alone can be refused. -/
theorem listedRefusal_of_exec {s : State} {c : Refusal} (h : Consistent s) {i : Instr} (hi : issuable i = true)
    (he : exec i s = .refused c) : ListedRefusal s c := by
  obtain ⟨t, ht⟩ := h.exists_table
  cases i with
  | init std => exact listedRefusal_of_construct he
  | tick => exact listedRefusal_of_service h he
  | rdreg n =>
    obtain ⟨v, hv⟩ := exists_readReg_of_table ht n
    rw [exec_rdreg_of_readReg hv] at he
    cases he
  | hper => rw [exec_hper_of_table ht] at he; cases he
  | syncw => rw [exec_syncw_of_table ht] at he; cases he
  | teardown => cases he
  | rddiag => cases he
  | isact => cases he
  | reserved => cases he
  | _ => cases hi

theorem listedRefusal_of_runDecoded {s : State} {c : Refusal} (h : Consistent s) {r : Except DecodeError Instr}
    (hr : ∀ i, r = .ok i → issuable i = true) (he : runDecoded r s = .refused c) : ListedRefusal s c := by
  cases r with
  | ok i => exact listedRefusal_of_exec h (hr i rfl) he
  | error e => cases he

theorem listedRefusal_of_react {s : State} {c : Refusal} (h : Consistent s) {x : Stimulus} (hx : realStimulus x = true)
    (hr : react x s = .refused c) : ListedRefusal s c := by
  cases x with
  | command w => exact listedRefusal_of_runDecoded h (fun _ => issuable_of_decodeCommand) hr
  | operation w => exact listedRefusal_of_runDecoded h (fun i hi => by simpa [realStimulus, hi] using hx) hr
  | descriptor w => cases hx
  | lineRate => exact absurd hr (lineRate_ne_refused s c)
  | clk => exact listedRefusal_of_clockTick h hr
  | xfer => cases hr
  | rst => cases hr

/-- A step reacts to the head of the inbox, or the machine goes on by itself. -/
theorem listedRefusal_of_step {s : State} {c : Refusal} (h : Consistent s) (hstep : step s = .refused c) :
    ListedRefusal s c := by
  cases hin : s.inbox with
  | nil =>
    rw [step_nil hin] at hstep
    unfold idle at hstep
    split at hstep
    · exact listedRefusal_of_service h hstep
    · exact listedRefusal_of_clockTick h hstep
  | cons x rest =>
    have hreal := h.inbox
    simp only [hin, List.all_cons, Bool.and_eq_true] at hreal
    obtain ⟨hx, hrest⟩ := hreal
    rw [step_cons hin] at hstep
    exact (listedRefusal_of_react (h.withInbox hrest) hx hstep).of_inbox

/-- Settles O44: INIT's refusals by their equations, and a step's by the part that gives it. -/
theorem refusalsComeInOrderFromAClosedList : Obligations.RefusalsComeInOrderFromAClosedList := by
  refine ⟨fun s std => ⟨fun hr => construct_of_running hr std, fun hr hstd => ?_, fun hr t ht hv => ?_⟩,
    fun s c hs hstep => listedRefusal_of_step ((consistent_iff s).mp hs) hstep⟩
  · subst hstd
    exact construct_of_no_table hr (table_three s.cfg)
  · obtain ⟨c, hfails, hfirst⟩ := exists_firstFailure hv
    exact ⟨c, hfails, construct_of_failure hr ht hfirst⟩

end Sys2Proof.Machine
end

section
/-! PROOF. TIMER and the sync output (R263, R264), and the machine with no input (log 3). A tick of the clock counts or
completes the period, so that the ticks short of the period leave their number in TCNT and everything else as it was. -/

namespace Sys2Proof.Machine

/-! ### One tick of the clock -/

theorem clockTick_of_stopped {s : State} (hr : s.run = false) : clockTick s = .next s := by
  simp [clockTick, hr]

/-- A tick short of the period counts, unless the pending service is due first (R292). -/
theorem clockTick_of_count {s : State} (hr : s.run = true) (hp : s.periodAct ≠ 0) (hend : s.tcnt + 1 ≠ s.periodAct)
    (hdue : s.armDue = false) : clockTick s = .next { s with tcnt := s.tcnt + 1 } := by
  have hshort : s.periodEnds = false := (periodEnds_of_period hp).trans (beq_eq_false_iff_ne.mpr hend)
  simp [clockTick, hr, hshort, hdue, countTickDraw_of_period hp, nextCount_of_period hp]

/-- The tick that completes the period is TIMER's boundary. -/
theorem clockTick_of_period_end {s : State} (hr : s.run = true) (hp : s.periodAct ≠ 0)
    (hend : s.tcnt + 1 = s.periodAct) : clockTick s = lineRate s := by
  have hlast : s.periodEnds = true := (periodEnds_of_period hp).trans (beq_iff_eq.mpr hend)
  simp [clockTick, hr, hlast, countTickDraw_of_period hp]

theorem armDue_of_idle {s : State} (hp : s.tickPending = false) : s.armDue = false := by
  simp [State.armDue, hp]

/-- No service is due while the next count is short of the trigger offset. -/
theorem armDue_of_early {s : State} (h : s.nextCount < s.trigofsAct) : s.armDue = false := by
  simp [State.armDue, h]

/-! ### The machine by itself -/

theorem step_of_pending {s : State} (hin : s.inbox = []) (hp : s.tickPending = true) : step s = exec .tick s := by
  rw [step_nil hin, idle, if_pos hp]

theorem step_of_idle {s : State} (hin : s.inbox = []) (hp : s.tickPending = false) : step s = clockTick s := by
  simp [step_nil hin, idle, hp]

/-- Settles O8: a pending event is served, and otherwise the clock ticks, which counts, completes the period or finds TIMER
stopped. -/
theorem machineRunsByItself : Obligations.MachineRunsByItself := by
  intro s hin
  refine ⟨step_of_pending hin, fun hp hr hper hend => ?_, fun hp hr hirq hper hend hx => ?_,
    fun hp hr hirq hper hend hx => ?_, fun hp hr => ?_⟩
  all_goals rw [step_of_idle hin hp]
  · exact clockTick_of_count hr hper hend (armDue_of_idle hp)
  · rw [clockTick_of_period_end hr hper hend]
    exact lineRate_of_no_borrow (Bool.and_eq_true_iff.mpr ⟨hr, hirq⟩) hp hx
  · obtain ⟨b, hb⟩ := Option.ne_none_iff_exists'.mp hx
    rw [clockTick_of_period_end hr hper hend, lineRate_of_borrow (Bool.and_eq_true_iff.mpr ⟨hr, hirq⟩) hp hb,
      State.waitFor, hin]
  · exact clockTick_of_stopped hr

/-! ### The ticks of one period -/

theorem stepTimes_add {m : Nat} {s u : State} (h : stepTimes m s = .next u) (n : Nat) :
    stepTimes (m + n) s = stepTimes n u := by
  induction m generalizing s with
  | zero =>
    cases h
    rw [Nat.zero_add]
  | succ m ih =>
    obtain ⟨v, hv, hu⟩ := andThen_eq_next h
    rw [Nat.succ_add, stepTimes, hv, andThen_next, ih hu]

theorem stepTimes_one (s : State) : stepTimes 1 s = step s := by
  simp only [stepTimes]
  cases step s <;> rfl

/-- The state in which TIMER has counted `k` more ticks and `rest` is what is left of the inbox. -/
def State.afterTicks (s : State) (k : Nat) (rest : List Stimulus) : State :=
  { s with inbox := rest, tcnt := s.tcnt + BitVec.ofNat Config.tickW k }

/-- A running TIMER has `k` ticks to count: they are short of the period, and of the trigger offset too while a service is
pending, which would have to come before that count (R292, log 18). -/
structure HasTicks (s : State) (k : Nat) : Prop where
  run : s.run = true
  period : s.tcnt.toNat + k < s.periodAct.toNat
  arm : s.tickPending = false ∨ s.tcnt.toNat + k < s.trigofsAct.toNat

section
variable {s : State} {k : Nat}

theorem HasTicks.periodAct_ne_zero (h : HasTicks s k) : s.periodAct ≠ 0 := by
  intro h0
  simpa [h0] using h.period

/-- The count does not wrap before the end of the period. -/
theorem HasTicks.toNat_tcnt (h : HasTicks s k) (rest : List Stimulus) :
    (s.afterTicks k rest).tcnt.toNat = s.tcnt.toNat + k := by
  have hlt := h.period.trans s.periodAct.isLt
  rw [State.afterTicks, BitVec.toNat_add, BitVec.toNat_ofNat, Nat.add_mod_mod, Nat.mod_eq_of_lt hlt]

theorem HasTicks.mono (h : HasTicks s k) {j : Nat} (hj : j ≤ k) : HasTicks s j :=
  have hle : s.tcnt.toNat + j ≤ s.tcnt.toNat + k := Nat.add_le_add_left hj _
  ⟨h.run, hle.trans_lt h.period, h.arm.imp_right hle.trans_lt⟩

theorem HasTicks.afterTicks_one (h : HasTicks s (k + 1)) (rest : List Stimulus) : HasTicks (s.afterTicks 1 rest) k := by
  have hcount : (s.afterTicks 1 rest).tcnt.toNat + k = s.tcnt.toNat + (k + 1) := by
    rw [(h.mono (Nat.le_add_left 1 k)).toNat_tcnt, Nat.add_assoc, Nat.add_comm 1]
  exact ⟨h.run, hcount ▸ h.period, hcount ▸ h.arm⟩

theorem HasTicks.toNat_tcnt_of_boundary (h : HasTicks s k) (h0 : s.tcnt = 0) (rest : List Stimulus) :
    (s.afterTicks k rest).tcnt.toNat = k := by
  simp [h.toNat_tcnt, h0]

/-- From the boundary on the number of ticks is itself the count they lead to. -/
theorem hasTicks_of_boundary (hr : s.run = true) (h0 : s.tcnt = 0) (hk : k < s.periodAct.toNat)
    (harm : s.tickPending = false ∨ k < s.trigofsAct.toNat) : HasTicks s k :=
  ⟨hr, by simpa [h0] using hk, by simpa [h0] using harm⟩

/-- With a tick to count, the clock counts it. -/
theorem HasTicks.step (h : HasTicks s (k + 1)) {rest : List Stimulus} (hin : s.inbox = .clk :: rest) :
    step s = .next (s.afterTicks 1 rest) := by
  have hone : HasTicks { s with inbox := rest } 1 := { h.mono (Nat.le_add_left 1 k) with }
  have hcount : (s.tcnt + 1).toNat = s.tcnt.toNat + 1 := hone.toNat_tcnt rest
  have hend : s.tcnt + 1 ≠ s.periodAct := fun he => hone.period.ne (hcount.symm.trans (congrArg BitVec.toNat he))
  have hdue : State.armDue { s with inbox := rest } = false := by
    obtain hp | hlt := hone.arm
    · exact armDue_of_idle hp
    · refine armDue_of_early ?_
      rw [nextCount_of_period hone.periodAct_ne_zero, BitVec.lt_def]
      exact hcount ▸ hlt
  rw [step_cons hin]
  exact clockTick_of_count hone.run hone.periodAct_ne_zero hend hdue

/-- Ticks of the clock, as many as there are to count, are counted and change nothing else. -/
theorem HasTicks.stepTimes (h : HasTicks s k) {rest : List Stimulus} (hin : s.inbox = List.replicate k .clk ++ rest) :
    stepTimes k s = .next (s.afterTicks k rest) := by
  induction k generalizing s with
  | zero => simp [Machine.stepTimes, State.afterTicks, ← (show s.inbox = rest from hin)]
  | succ k ih =>
    have hcons : s.inbox = .clk :: (List.replicate k .clk ++ rest) := hin
    rw [Machine.stepTimes, h.step hcons, andThen_next, ih (h.afterTicks_one _) rfl]
    simp only [State.afterTicks, BitVec.add_assoc, ← BitVec.ofNat_add, Nat.add_comm 1]

/-- The tick after the last one there is to count in the period is the boundary. -/
theorem HasTicks.stepTimes_period (h : HasTicks s k) (hend : s.tcnt.toNat + k + 1 = s.periodAct.toNat)
    {rest : List Stimulus} (hin : s.inbox = List.replicate (k + 1) .clk ++ rest) :
    Machine.stepTimes (k + 1) s = lineRate (s.afterTicks k rest) := by
  have hcounted : Machine.stepTimes k s = .next (s.afterTicks k (.clk :: rest)) :=
    h.stepTimes (by rw [hin, List.replicate_succ', List.append_assoc, List.singleton_append])
  have hlast : (s.afterTicks k rest).tcnt + 1 = s.periodAct := by
    refine BitVec.eq_of_toNat_eq ?_
    have hcount := h.toNat_tcnt rest
    rw [BitVec.toNat_add_of_lt (by rw [hcount]; exact hend ▸ s.periodAct.isLt), hcount]
    exact hend
  rw [stepTimes_add hcounted, stepTimes_one, step_cons (rest := rest) rfl]
  exact clockTick_of_period_end (s := s.afterTicks k rest) h.run h.periodAct_ne_zero hlast

end

/-- The trigger fires at the offset's own count, if it is enabled (R32, R33). -/
theorem triggerFires_iff {s : State} (hr : s.run = true) :
    triggerFires s = true ↔ s.trigEn = true ∧ s.tcnt.toNat = s.trigofsAct.toNat := by
  simp [triggerFires, hr, BitVec.toNat_inj]

theorem syncAsserted?_of_run {s : State} (hr : s.run = true) (hw : s.syncwAct < s.periodAct) :
    syncAsserted? s = some (decide (s.tcnt.toNat < s.syncwAct.toNat)) := by
  simp [syncAsserted?, hr, hw, BitVec.lt_def]

/-- Settles O51: the ticks short of the period are counted, and the one after the last of them is the boundary. -/
theorem periodLastsPeriodActTicks : Obligations.PeriodLastsPeriodActTicks := by
  intro s k rest hr hirq hp hx h0 hin
  have hticks (n : Nat) (hn : n < s.periodAct.toNat) : HasTicks s n := hasTicks_of_boundary hr h0 hn (.inl hp)
  have hstate : s.afterTicks k rest = { s with inbox := rest, tcnt := BitVec.ofNat Config.tickW k } := by
    simp [State.afterTicks, h0]
  refine ⟨fun hk => ⟨s.afterTicks k rest, (hticks k hk).stepTimes hin, hstate, ?_⟩, fun hk hpos => ?_⟩
  · rw [triggerFires_iff (s := s.afterTicks k rest) hr, (hticks k hk).toNat_tcnt_of_boundary h0]
    rfl
  · obtain ⟨n, rfl⟩ := Nat.exists_eq_add_of_le' hpos
    have hend : s.tcnt.toNat + n + 1 = s.periodAct.toNat := by simpa [h0] using hk
    exact ((hticks n (by omega)).stepTimes_period hend hin).trans
      (lineRate_of_no_borrow (s := s.afterTicks n rest) (Bool.and_eq_true_iff.mpr ⟨hr, hirq⟩) hp hx)

/-- Settles O52: the ticks are counted, and the sync output compares their number with the pulse width. -/
theorem syncPulseLastsSyncwActTicks : Obligations.SyncPulseLastsSyncwActTicks := by
  intro s k rest hr h0 hw hk harm hin
  have hticks : HasTicks s k := hasTicks_of_boundary hr h0 hk harm
  refine ⟨s.afterTicks k rest, hticks.stepTimes hin, ?_⟩
  rw [syncAsserted?_of_run (s := s.afterTicks k rest) hr hw, hticks.toNat_tcnt_of_boundary h0]
  rfl

end Sys2Proof.Machine
end

section
/-! PROOF. The reset input (R280): it clears the state whatever RUN is, where TEARDOWN asks for RUN first. -/

namespace Sys2Proof.Machine

theorem react_rst (s : State) : react .rst s = .next s.clear := rfl

/-- Settles O54: the step takes the reset input out of the inbox and clears what is left, running or not. -/
theorem resetInputClearsEveryRegister : Obligations.ResetInputClearsEveryRegister := by
  intro s rest hin
  rw [step_cons hin, react_rst, State.clear]

end Sys2Proof.Machine
end
